-- ==== Sys2Proof/Word.lean ====
section
/-! DEFINITION. The widths the manual fixes, the two ports and the three classes, and the small containers
(one value per port, per class, per direction, and an amount of headers and blocks). -/

namespace Sys2Proof

/-- A byte of a packet, a flit or a management payload. -/
abbrev Byte := BitVec 8
/-- A 48-bit address (00_scope.md section 7, Numbers). -/
abbrev Addr := BitVec 48
/-- A unit number 0–31 (01 section 1.1). -/
abbrev UnitNo := BitVec 5
/-- A requester's or an entry's 8-bit tag (01 Table 1-2). -/
abbrev Tag := BitVec 8
/-- A 12-bit link sequence number (07 section 7.1). -/
abbrev Seq := BitVec 12
/-- A value of the 32-bit microsecond time base, which wraps (00_scope.md section 7, Time). -/
abbrev Time := BitVec 32

/-- The two link ports. -/
inductive Port where
  | root
  | leaf
  deriving DecidableEq, Repr

/-- The other port. -/
def Port.other : Port → Port
  | .root => .leaf
  | .leaf => .root

/-- The three packet classes (01 R3). -/
inductive Cls where
  | stream
  | query
  | reply
  deriving DecidableEq, Repr

/-- A direction (01 R2). It also names the Query Table used for it: `down` the Downbound, `up` the Upbound table. -/
inductive Dir where
  | down
  | up
  deriving DecidableEq, Repr

/-- The direction of the packets that enter at a port (01 R2). -/
def Port.dir : Port → Dir
  | .root => .down
  | .leaf => .up

/-- The port a table's queries enter at (04 R62). -/
def Dir.requesterPort : Dir → Port
  | .down => .root
  | .up => .leaf

/-- The port a table's queries leave at and its replies are taken at (04 R62). -/
def Dir.farPort : Dir → Port
  | .down => .leaf
  | .up => .root

/-- The table whose replies arrive at a port (01 R2). -/
def Port.replyTable : Port → Dir
  | .root => .up
  | .leaf => .down

/-- One value for each port. -/
structure PerPort (α : Type) where
  root : α
  leaf : α
  deriving DecidableEq, Repr

/-- One value for each class. -/
structure PerClass (α : Type) where
  stream : α
  query : α
  reply : α
  deriving DecidableEq, Repr

/-- One value for each direction. -/
structure PerDir (α : Type) where
  down : α
  up : α
  deriving DecidableEq, Repr

/-- A number of headers and a number of 64-byte data blocks (chapter 6). -/
structure Amount (α : Type) where
  headers : α
  blocks : α
  deriving DecidableEq, Repr

def PerPort.get {α : Type} (x : PerPort α) : Port → α
  | .root => x.root
  | .leaf => x.leaf

def PerPort.set {α : Type} (x : PerPort α) (p : Port) (a : α) : PerPort α :=
  match p with
  | .root => { x with root := a }
  | .leaf => { x with leaf := a }

def PerClass.get {α : Type} (x : PerClass α) : Cls → α
  | .stream => x.stream
  | .query => x.query
  | .reply => x.reply

def PerClass.set {α : Type} (x : PerClass α) (c : Cls) (a : α) : PerClass α :=
  match c with
  | .stream => { x with stream := a }
  | .query => { x with query := a }
  | .reply => { x with reply := a }

def PerClass.map {α β : Type} (f : α → β) (x : PerClass α) : PerClass β :=
  { stream := f x.stream, query := f x.query, reply := f x.reply }

def PerClass.zip {α β γ : Type} (f : α → β → γ) (x : PerClass α) (y : PerClass β) : PerClass γ :=
  { stream := f x.stream y.stream, query := f x.query y.query, reply := f x.reply y.reply }

/-- The same value for all three classes. -/
def PerClass.all {α : Type} (a : α) : PerClass α := { stream := a, query := a, reply := a }

def PerDir.get {α : Type} (x : PerDir α) : Dir → α
  | .down => x.down
  | .up => x.up

def PerDir.set {α : Type} (x : PerDir α) (d : Dir) (a : α) : PerDir α :=
  match d with
  | .down => { x with down := a }
  | .up => { x with up := a }

def Amount.map {α β : Type} (f : α → β) (x : Amount α) : Amount β :=
  { headers := f x.headers, blocks := f x.blocks }

def Amount.zip {α β γ : Type} (f : α → β → γ) (x : Amount α) (y : Amount β) : Amount γ :=
  { headers := f x.headers y.headers, blocks := f x.blocks y.blocks }

/-- The same number of headers and blocks. -/
def Amount.both {α : Type} (a : α) : Amount α := { headers := a, blocks := a }

end Sys2Proof
end

