-- ==== Sys2Proof/Syntax.lean ====
section
/-! DEFINITION. The commands: one constructor for each row of spec/opcode_table.json, with the operands the rules
give the event (the table gives none). -/

namespace Sys2Proof

/-- A flit as it stands on the lanes: its bytes and the two bytes of the check value after them, in the order sent
(07 R115, R116). -/
structure RawFlit where
  bytes : List Byte
  check : Vector Byte 2
  deriving DecidableEq, Repr

/-- A framed class packet as it stands on the lanes: sequence number, the 12 header bytes, the payload bytes and the
four bytes of the check value, in the order sent (07 R115). -/
structure RxFrame where
  seq : Seq
  header : Vector Byte 12
  payload : List Byte
  check : Vector Byte 4
  deriving DecidableEq, Repr

/-- The commands of the part, in the order of spec/opcode_table.json. `p` is the port the event happens at, `f` the
flit or frame received, `d` a Query Table and `e` an entry of it. The rows of the management commands take no
operands: each executes the command at the head of the Management Engine's queue (10 R164; log 5). -/
inductive Instr where
  | coldReset (unitsel : UnitNo) (leafmgt : Bool)
  | rstNRelease
  | rootReset (f : RawFlit)
  | resetFlitAtLeaf (f : RawFlit)
  | packetReceived (p : Port) (f : RxFrame)
  | partnerTrainDetected (p : Port) (f : RawFlit)
  | configReceived (p : Port) (f : RawFlit)
  | ackReceived (p : Port) (f : RawFlit)
  | nakReceived (p : Port) (f : RawFlit)
  | creditReceived (p : Port) (f : RawFlit)
  | parkReceived (p : Port) (f : RawFlit)
  | wakeReceived (p : Port) (f : RawFlit)
  | idleReceived (p : Port) (f : RawFlit)
  | sweepEnds (p : Port) (passing : Vector (BitVec 64) 16)
  | attemptBoundPasses (p : Port)
  | wakeBoundPasses (p : Port)
  | parkDrainBoundPasses (p : Port)
  | parkDrainCompletes (p : Port)
  | replayTimerExpires (p : Port)
  | ackBoundPasses (p : Port)
  | creditRepeatDue (p : Port)
  | configRepeat (p : Port)
  | wakeRepeat (p : Port)
  | arbiterDecision (p : Port)
  | replayResend (p : Port)
  | ackSent (p : Port)
  | nakSent (p : Port)
  | creditFlitSent (p : Port)
  | takePut (p : Port)
  | takeGetSet (p : Port)
  | takeManage (p : Port)
  | managementBypass (p : Port)
  | takeSignal
  | takeReply (p : Port)
  | takeMalformed (p : Port) (c : Cls)
  | deadlinePasses (d : Dir) (e : Fin 64)
  | quarantineEndPasses (d : Dir) (e : Fin 64)
  | returningDonePushed (d : Dir) (e : Fin 64)
  | notificationAdmitted
  | managementReplyAdmitted (p : Port)
  | unknownCommand
  | identify
  | accessSet
  | portStatus
  | linkSet
  | linkRetrain
  | linkPark
  | linkWake
  | laneRead
  | bufferPlanSet
  | arbiterSet
  | windowLoad
  | windowActivate
  | windowRetire
  | windowDiscard
  | windowRead
  | groupSet
  | groupRead
  | missPolicySet
  | timerSet
  | queryRead
  | querySummary
  | signalConfig
  | signalMask
  | signalServiced
  | signalRead
  | captureRead
  | captureClear
  deriving DecidableEq, Repr

end Sys2Proof
end

