-- ==== Sys2Proof/Config.lean ====
section
/-! DEFINITION. What the manual fixes for the part (capacities, bounds, identity) and what it leaves open
(free values: constants with no body). -/

namespace Sys2Proof.Config

/-- FREE VALUE (log 6). A choice the manual leaves open: which of several records of one event enters first
(11 R179), which of several replies of one event is admitted first (10 R169), whether a due NAK or ACK or a due CREDIT
flit goes first (log 11). Applied to the counter `freeCtr`, which every use advances. -/
opaque pick : Nat → Nat

/-- FREE VALUE (log 3). Whether the time base counts while RST_N is held low; the manual does not say. -/
opaque countsWhileHeld : Bool

/-- Places of one egress queue (05 R87). -/
def egressPlaces : Nat := 32
/-- Entries of one replay buffer (07 R117). -/
def replayEntries : Nat := 32
/-- Header slots of one Ingress Buffer (06 R102). -/
def ingressHeaders : Nat := 48
/-- Data blocks of one Ingress Buffer (06 R102). -/
def ingressBlocks : Nat := 96
/-- Places of the command queue (10 R163). -/
def commandPlaces : Nat := 8
/-- Places of the deferred list (10 R170). -/
def deferredPlaces : Nat := 4
/-- Records of the Error Capture Queue (11 R179). -/
def capturePlaces : Nat := 16
/-- The replay count at which a trigger retrains the port (07 R122). -/
def replayLimit : Nat := 4
/-- Failed attempts that take a port DOWN (08 R136). -/
def attemptLimit : Nat := 3
/-- Unacknowledged deliveries that make an ACK due (07 R125). -/
def ackCount : Nat := 8
/-- µs from the first unacknowledged delivery until an ACK is due (07 R125). -/
def ackBound : Nat := 2
/-- µs between repetitions of CREDIT (06 R107), CONFIG (08 R134) and WAKE (08 R143). -/
def repeatInterval : Nat := 10
/-- µs of the attempt bound (08 R136). -/
def attemptBound : Nat := 2000
/-- µs of the wake bound (08 R143). -/
def wakeBound : Nat := 2000
/-- µs of the park drain bound (08 R142). -/
def parkBound : Nat := 1000
/-- Milliseconds of the longest timer setting (04 R78). -/
def timerMax : Nat := 4000

end Sys2Proof.Config
end

