-- ==== Sys2Proof/Machine/State.lean ====
section
/-! DEFINITION. The state of the part, as plain data: `Bridge` holds everything the spec gives the part, `State` is
`Bridge` with the queue of waiting commands. -/

namespace Sys2Proof.Machine

/-! ### Packets and flits -/

/-- The kinds of 01 Table 1-1; `none7` is kind code 7, which is no kind. -/
inductive Kind where
  | put
  | signal
  | get
  | set
  | manage
  | data
  | done
  | none7
  deriving DecidableEq, Repr

/-- A class packet: the header fields of 01 Table 1-3 and the payload bytes. `len` is the length minus one (01 R5).
`info` is byte 11, read by kind: level and line, command, last and part, or status. -/
structure Packet where
  kind : Kind
  ordered : Bool
  speculative : Bool
  blocks : BitVec 3
  src : UnitNo
  dst : UnitNo
  tag : Tag
  addr : Addr
  len : Byte
  info : Byte
  payload : List Byte
  deriving DecidableEq, Repr

/-- A packet in the form it was framed in, its check value as a number (07 R115, R117). -/
structure Framed where
  seq : Seq
  pkt : Packet
  check : BitVec 32
  deriving DecidableEq, Repr

/-- A lane rate (rate code 1, 2, 3 of 08 R140). -/
inductive Rate where
  | r3_2
  | r6_4
  | r12_8
  deriving DecidableEq, Repr

/-- A number of lanes a port can use (08 R133). -/
inductive Width where
  | w4
  | w8
  | w16
  deriving DecidableEq, Repr

/-- What a CONFIG flit carries (07 Table 7-2). The credits are signed bytes. -/
structure ConfigFlit where
  maxWidth : Width
  restart : Bool
  maxRate : Rate
  credits : PerClass (Amount Byte)
  deriving DecidableEq, Repr

/-- The nine flits of 01 Table 1-7 with what they carry. -/
inductive Flit where
  | idle
  | train (marker : Bool) (rate : Rate)
  | config (c : ConfigFlit)
  | ack (n : Seq)
  | nak (n : Seq)
  | credit (totals : PerClass (Amount Byte))
  | park
  | wake
  | reset
  deriving DecidableEq, Repr

/-- What a port put on its transmit lanes. -/
inductive LaneItem where
  | flit (f : Flit)
  | packet (f : Framed)
  deriving DecidableEq, Repr

/-- An item with the lanes it was sent on: lanes 0 to width − 1. Absent is no lane: a port that has no width yet. -/
structure Sent where
  item : LaneItem
  lanes : Option Width
  deriving DecidableEq, Repr

/-! ### The Link Unit -/

/-- Port states (08 R129, R130). -/
inductive LinkState where
  | down
  | training
  | config
  | active
  | parked
  | waking
  deriving DecidableEq, Repr

/-- Training causes (08 Table 8-4). -/
inductive Cause where
  | coldReset
  | reset
  | retrain
  | partnerTrain
  | replayLimit
  | creditOverrun
  | leafResetReceived
  | wakeTimeout
  deriving DecidableEq, Repr

/-- The four link settings (08 R129, R140). -/
structure LinkSettings where
  widthCap : Width
  rateCap : Rate
  trim : Int
  replayTimeout : Nat
  deriving DecidableEq, Repr

/-- The port record of 08 Table 8-1. `width` absent is a width of 0. -/
structure PortRecord where
  state : LinkState
  rate : Rate
  width : Option Width
  attempts : Nat
  cause : Cause
  inForce : LinkSettings
  pendingSettings : LinkSettings
  partnerMax : Rate
  attemptStart : Time
  deriving DecidableEq, Repr

/-- What a training and the link's repeats keep beside the port record.
`usable` is the usable width of 08 R133, present once the sweep of the attempt has ended with one: then the
sweep-ended marker is set. `keptAck` and `keptConfig` are the partner's flits kept for CONFIG (08 R134, R138; log 13).
`planTaken` says that the first CONFIG flit of this training has been sent (06 R111). `sentAck` and `sentConfig` are the
flits of the first sending, for the repeats of 08 R134. `restartFlag` is the flag of 07 R128. -/
structure Training where
  usable : Option Width
  keptAck : Option Seq
  keptConfig : Option ConfigFlit
  planTaken : Bool
  sentAck : Option Seq
  sentConfig : Option ConfigFlit
  lastConfig : Time
  restartFlag : Bool
  wakeStart : Time
  lastWake : Time
  deriving DecidableEq, Repr

/-- The result of a lane's sweep (08 R132). -/
inductive LaneResult where
  | notSwept
  | passed
  | failed
  deriving DecidableEq, Repr

/-- A lane record (08 R132, R145). Delay codes are 0–63. -/
structure LaneRec where
  result : LaneResult
  inUse : Bool
  first : Nat
  last : Nat
  centre : Nat
  applied : Nat
  rate : Rate
  deriving DecidableEq, Repr

/-- The send side of 07: transmit next sequence, replay buffer (oldest first), replay timer start (absent: the timer
is stopped), replay count, and during a replay the index in the buffer of the next entry to resend. -/
structure SendSide where
  nextSeq : Seq
  buffer : List Framed
  timerStart : Option Time
  replayCount : Nat
  replayPos : Option Nat
  deriving DecidableEq, Repr

/-- The receive side of 07. `ackBound` is the moment the 2 µs bound of R125 passes, absent while nothing is
unacknowledged. -/
structure RecvSide where
  expected : Seq
  nakOutstanding : Bool
  unacked : Nat
  ackBound : Option Time
  ackDue : Bool
  nakDue : Bool
  delivered : Bool
  deriving DecidableEq, Repr

/-! ### Buffers, credit and queues -/

/-- The receive account of one class (06 R102). -/
structure RxAccount where
  occupied : Amount Nat
  outstanding : Amount Int
  freed : Amount Nat
  allowance : Amount Nat
  returns : Amount Byte
  deriving DecidableEq, Repr

/-- An Ingress Buffer: its pools, receive account, buffer plans (06 R102, R103), and the time of the last CREDIT flit
(06 R107). -/
structure Ingress where
  pools : PerClass (List Packet)
  account : PerClass RxAccount
  activePlan : PerClass (Amount Nat)
  pendingPlan : PerClass (Amount Nat)
  lastCredit : Time
  deriving DecidableEq, Repr

/-- The send account of one class (06 R109). -/
structure SendAccount where
  held : Amount Int
  seen : Amount Byte
  deriving DecidableEq, Repr

/-- The entry mark of a queued query (05 R87). -/
structure Mark where
  table : Dir
  entry : Fin 64
  deriving DecidableEq, Repr

/-- A packet in an egress queue, with its arrival stamp (05 R88) and entry mark. -/
structure Queued where
  pkt : Packet
  stamp : Nat
  mark : Option Mark
  deriving DecidableEq, Repr

/-- The egress of a port (chapter 5). -/
structure Egress where
  queues : PerClass (List Queued)
  admissions : Nat
  start : PerClass Nat
  current : PerClass Nat
  deriving DecidableEq, Repr

/-- Everything one port holds. `lanes` are the 16 lane records; `out` is what the port has sent (log 7). -/
structure PortState where
  record : PortRecord
  training : Training
  lanes : Vector LaneRec 16
  ingress : Ingress
  credit : PerClass SendAccount
  egress : Egress
  send : SendSide
  recv : RecvSide
  out : List Sent
  deriving DecidableEq, Repr

/-! ### The tables -/

/-- Slot states (02 R15, R17). -/
inductive SlotState where
  | free
  | staged
  | live
  | draining
  deriving DecidableEq, Repr

/-- The record proper of a window (02 Table 2-1). -/
structure WindowRecord where
  direction : Dir
  base : Addr
  sizeExp : Byte
  translation : Option Addr
  readAllowed : Bool
  writeAllowed : Bool
  group : Fin 8
  earlyAck : Bool
  specAllowed : Bool
  deriving DecidableEq, Repr

/-- A window slot: state, record proper and in-flight count (02 Table 2-1). -/
structure Slot where
  state : SlotState
  window : WindowRecord
  inflight : Nat
  deriving DecidableEq, Repr

/-- Miss policies (02 R37). -/
inductive MissPolicy where
  | pass
  | reflect
  | reject
  deriving DecidableEq, Repr

/-- Query entry states (04 Table 4-1). -/
inductive EntryState where
  | free
  | waiting
  | returning
  | quarantine
  deriving DecidableEq, Repr

/-- Query positions (04 R63). -/
inductive QueryPos where
  | queued
  | sent
  | cleared
  deriving DecidableEq, Repr

/-- Kinds of query (04 Table 4-1). -/
inductive QueryKind where
  | get
  | set
  | manage
  deriving DecidableEq, Repr

/-- The eleven status codes of 01 Table 1-5. -/
inductive Status where
  | ok
  | failed
  | timeout
  | denied
  | noTarget
  | linkDown
  | declined
  | malformed
  | busy
  | state
  | range
  deriving DecidableEq, Repr

/-- A Query entry (04 Table 4-1). `delivered` counts blocks: bytes delivered is 64 times it. -/
structure Entry where
  state : EntryState
  pos : QueryPos
  reqUnit : UnitNo
  reqTag : Tag
  kind : QueryKind
  slot : Option (Fin 32)
  reqBlocks : Nat
  delivered : Nat
  nextPart : Option (Fin 4)
  deadline : Time
  owed : Option Status
  replySeen : Bool
  quarEnd : Time
  deriving DecidableEq, Repr

/-- States of a signal line (09 Table 9-1). -/
inductive LineState where
  | idle
  | pending
  | outstanding
  deriving DecidableEq, Repr

/-- A line record (09 Table 9-1). -/
structure Line where
  enabled : Bool
  masked : Bool
  level : Bool
  state : LineState
  target : Addr
  payload : BitVec 32
  lastUnit : Option UnitNo
  deriving DecidableEq, Repr

/-! ### Management -/

/-- A command in the command queue (10 R163), with its payload as carried. -/
structure Command where
  port : Port
  src : UnitNo
  tag : Tag
  code : BitVec 6
  blocks : Nat
  payload : List Byte
  deriving DecidableEq, Repr

/-- The operation of a deferred command with its object (10 R170; the drain bound of 08 R142). -/
inductive DeferredOp where
  | retire (slot : Fin 32)
  | retrain (port : Port) (running : Bool)
  | park (port : Port) (bound : Time)
  deriving DecidableEq, Repr

/-- A place of the deferred list (10 R170). -/
structure Deferred where
  port : Port
  src : UnitNo
  tag : Tag
  op : DeferredOp
  deriving DecidableEq, Repr

/-- A reply the Management Engine has formed (10 R169); `immediate` marks that of the executed head. -/
structure MgmtReply where
  port : Port
  pkt : Packet
  immediate : Bool
  deriving DecidableEq, Repr

/-- The Management Engine (chapter 10). `waiting` is oldest first. -/
structure Engine where
  queue : List Command
  deferred : List Deferred
  waiting : List MgmtReply
  leafOpen : Bool
  resetForwarding : Bool
  deriving DecidableEq, Repr

/-! ### Capture -/

/-- Capture record kinds (11 Table 11-1). -/
inductive RecordKind where
  | checkFail
  | replayLimit
  | linkLost
  | creditOverrun
  | malformed
  | accessDenied
  | noWindow
  | queryTimeout
  | lateReply
  | strayReply
  | lostReply
  | discarded
  deriving DecidableEq, Repr

/-- A capture record (11 R180). -/
structure Record where
  kind : RecordKind
  port : Port
  stamp : Time
  src : Option UnitNo
  addr : Option Addr
  tag : Option Tag
  slot : Option (Fin 32)
  status : Option (BitVec 4)
  count : Option Nat
  deriving DecidableEq, Repr

/-! ### The whole part -/

/-- All the state of the part. `freeCtr` is the model's own: the number of free choices made so far (log 6). -/
structure Bridge where
  timeBase : Time
  rstLow : Bool
  unit : UnitNo
  ports : PerPort PortState
  slots : Vector Slot 32
  groups : Vector (BitVec 32) 8
  miss : PerDir MissPolicy
  tables : PerDir (Vector Entry 64)
  deadlineMs : Nat
  quarantineMs : Nat
  lines : Vector Line 64
  engine : Engine
  capture : List Record
  overflowed : Bool
  freeCtr : Nat
  deriving DecidableEq, Repr

/-- The part and the queue of commands waiting for it, first in, first out. -/
structure State where
  bridge : Bridge
  pending : List Instr
  deriving DecidableEq, Repr

/-- The manual names no condition that stops the part, so there is no fault (log 8): nobody raises one. -/
inductive Fault where
  deriving DecidableEq, Repr

/-- Refusals. -/
inductive Refusal where
  /-- A command that has no meaning yet, raised by the dispatch alone; safe. No arm raises it now. -/
  | notModelled (mnemonic : String)
  deriving DecidableEq, Repr

/-! ### Values after a cold reset -/

/-- The cold link settings (08 Table 8-1). -/
def LinkSettings.cold : LinkSettings := { widthCap := .w16, rateCap := .r12_8, trim := 0, replayTimeout := 20 }

/-- The cold port record (08 Table 8-1). -/
def PortRecord.cold : PortRecord :=
  { state := .training, rate := .r3_2, width := none, attempts := 0, cause := .coldReset,
    inForce := LinkSettings.cold, pendingSettings := LinkSettings.cold, partnerMax := .r3_2, attemptStart := 0 }

/-- Training bookkeeping after a cold reset: nothing kept; the restart flag is set, since a cold reset restarts the
numbers (07 R128); the model's own moments are 0 (log 27). -/
def Training.cold : Training :=
  { usable := none, keptAck := none, keptConfig := none, planTaken := false, sentAck := none, sentConfig := none,
    lastConfig := 0, restartFlag := true, wakeStart := 0, lastWake := 0 }

/-- The cold lane record (08 R132). -/
def LaneRec.cold : LaneRec :=
  { result := .notSwept, inUse := false, first := 0, last := 0, centre := 0, applied := 0, rate := .r3_2 }

/-- An account with every count 0 (06 R102, R114). -/
def RxAccount.zero : RxAccount :=
  { occupied := .both 0, outstanding := .both 0, freed := .both 0, allowance := .both 0, returns := .both 0 }

/-- A send account with every count 0 (06 R114). -/
def SendAccount.zero : SendAccount := { held := .both 0, seen := .both 0 }

/-- The default buffer plan (06 Table 6-1). -/
def defaultPlan : PerClass (Amount Nat) :=
  { stream := { headers := 16, blocks := 32 }, query := { headers := 16, blocks := 16 },
    reply := { headers := 16, blocks := 48 } }

/-- The cold Ingress Buffer (06 R102, R103). -/
def Ingress.cold : Ingress :=
  { pools := .all [], account := .all RxAccount.zero, activePlan := defaultPlan, pendingPlan := defaultPlan,
    lastCredit := 0 }

/-- The cold start priorities (05 R94). -/
def startPriorities : PerClass Nat := { reply := 1, stream := 2, query := 3 }

/-- The cold egress (05 R101). -/
def Egress.cold : Egress :=
  { queues := .all [], admissions := 0, start := startPriorities, current := startPriorities }

/-- The send side after a restart of the numbers (07 R128). -/
def SendSide.restarted : SendSide :=
  { nextSeq := 0, buffer := [], timerStart := none, replayCount := 0, replayPos := none }

/-- The receive side after a restart of the numbers (07 R128). -/
def RecvSide.restarted : RecvSide :=
  { expected := 0, nakOutstanding := false, unacked := 0, ackBound := none, ackDue := false, nakDue := false,
    delivered := false }

/-- A port after a cold reset. -/
def PortState.cold : PortState :=
  { record := PortRecord.cold, training := Training.cold, lanes := Vector.replicate 16 LaneRec.cold,
    ingress := Ingress.cold, credit := .all SendAccount.zero, egress := Egress.cold,
    send := SendSide.restarted, recv := RecvSide.restarted, out := [] }

/-- The record of a FREE slot (02 R15). -/
def WindowRecord.zero : WindowRecord :=
  { direction := .down, base := 0, sizeExp := 0, translation := none, readAllowed := false, writeAllowed := false,
    group := 0, earlyAck := false, specAllowed := false }

/-- A FREE slot (02 R15). -/
def Slot.free : Slot := { state := .free, window := WindowRecord.zero, inflight := 0 }

/-- A FREE entry (04 R62). -/
def Entry.free : Entry :=
  { state := .free, pos := .queued, reqUnit := 0, reqTag := 0, kind := .get, slot := none, reqBlocks := 0,
    delivered := 0, nextPart := none, deadline := 0, owed := none, replySeen := false, quarEnd := 0 }

/-- The cold line record (09 Table 9-1). -/
def Line.cold : Line :=
  { enabled := false, masked := true, level := false, state := .idle, target := 0, payload := 0, lastUnit := none }

/-- The cold requester groups (02 R39): group 0 holds all 32 units. -/
def coldGroups : Vector (BitVec 32) 8 := (Vector.replicate 8 0).set 0 (BitVec.allOnes 32)

/-- The cold Management Engine (10 R175). -/
def Engine.cold (leafmgt : Bool) : Engine :=
  { queue := [], deferred := [], waiting := [], leafOpen := leafmgt, resetForwarding := true }

/-- The part after a cold reset that sampled the given straps, with RST_N still low (08 R148). -/
def Bridge.cold (unitsel : UnitNo) (leafmgt : Bool) : Bridge :=
  { timeBase := 0, rstLow := true, unit := unitsel,
    ports := { root := PortState.cold, leaf := PortState.cold },
    slots := Vector.replicate 32 Slot.free, groups := coldGroups, miss := { down := .pass, up := .pass },
    tables := { down := Vector.replicate 64 Entry.free, up := Vector.replicate 64 Entry.free },
    deadlineMs := 16, quarantineMs := 64, lines := Vector.replicate 64 Line.cold,
    engine := Engine.cold leafmgt, capture := [], overflowed := false, freeCtr := 0 }

/-- The machine right after reset: the cold values, RST_N still low, nothing pending. The straps are the board's:
DESIGN CHOICE 0 and low (log 4). -/
def State.reset : State := { bridge := Bridge.cold 0 false, pending := [] }

end Sys2Proof.Machine
end

