-- ==== Sys2Proof/WellFormed.lean ====
section
/-! DEFINITION. Which terms of `Instr` spell an event the row can be: a flit row carries a flit of the row's code and
length (07 Table 7-2; its check value may be bad, the lanes may damage it), and a frame carries the payload bytes its
header's block count says (01 R5, R6). The other operands are well formed by their types. -/

namespace Sys2Proof

/-- The flit codes of 07 Table 7-2. -/
inductive FlitCode where
  | idle
  | train
  | config
  | ack
  | nak
  | credit
  | park
  | wake
  | reset
  deriving DecidableEq, Repr

/-- The code in byte 0 bits 7–4 (07 Table 7-2). -/
def FlitCode.code : FlitCode → Nat
  | .idle => 0
  | .train => 1
  | .config => 2
  | .ack => 3
  | .nak => 4
  | .credit => 5
  | .park => 6
  | .wake => 7
  | .reset => 8

/-- The number of bytes of a flit (07 Table 7-2 and its note 1). -/
def FlitCode.size : FlitCode → Nat
  | .idle | .park | .wake | .reset => 1
  | .train => 2
  | .ack | .nak => 3
  | .credit => 7
  | .config => 9

/-- A raw flit has the code and the length of `k`. -/
def RawFlit.isA (f : RawFlit) (k : FlitCode) : Bool :=
  match f.bytes with
  | [] => false
  | b :: _ => b.toNat / 16 == k.code && f.bytes.length == k.size

/-- A frame carries as many payload bytes as its header's block count says. -/
def RxFrame.sized (f : RxFrame) : Bool :=
  f.payload.length == 64 * ((f.header[0]'(by decide)).toNat % 8)

/-- The well-formed commands. -/
def Instr.wf : Instr → Bool
  | .rootReset f | .resetFlitAtLeaf f => f.isA .reset
  | .packetReceived _ f => f.sized
  | .partnerTrainDetected _ f => f.isA .train
  | .configReceived _ f => f.isA .config
  | .ackReceived _ f => f.isA .ack
  | .nakReceived _ f => f.isA .nak
  | .creditReceived _ f => f.isA .credit
  | .parkReceived _ f => f.isA .park
  | .wakeReceived _ f => f.isA .wake
  | .idleReceived _ f => f.isA .idle
  | .coldReset _ _ | .rstNRelease | .sweepEnds _ _ | .attemptBoundPasses _ | .wakeBoundPasses _
  | .parkDrainBoundPasses _ | .parkDrainCompletes _ | .replayTimerExpires _ | .ackBoundPasses _
  | .creditRepeatDue _ | .configRepeat _ | .wakeRepeat _ | .arbiterDecision _ | .replayResend _
  | .ackSent _ | .nakSent _ | .creditFlitSent _ | .takePut _ | .takeGetSet _ | .takeManage _
  | .managementBypass _ | .takeSignal | .takeReply _ | .takeMalformed _ _ | .deadlinePasses _ _
  | .quarantineEndPasses _ _ | .returningDonePushed _ _ | .notificationAdmitted
  | .managementReplyAdmitted _ | .unknownCommand | .identify | .accessSet | .portStatus | .linkSet
  | .linkRetrain | .linkPark | .linkWake | .laneRead | .bufferPlanSet | .arbiterSet | .windowLoad
  | .windowActivate | .windowRetire | .windowDiscard | .windowRead | .groupSet | .groupRead
  | .missPolicySet | .timerSet | .queryRead | .querySummary | .signalConfig | .signalMask
  | .signalServiced | .signalRead | .captureRead | .captureClear => true

end Sys2Proof
end

