-- ==== Sys2Proof/Machine/Wire.lean ====
section
/-! DEFINITION. Codes, header and flit layouts, check values: 01 sections 1.2 to 1.6, 07 section 7.1. -/

namespace Sys2Proof.Machine

/-! ### Codes -/

/-- Kind codes (01 Table 1-1). -/
def Kind.code : Kind → BitVec 3
  | .put => 0
  | .signal => 1
  | .get => 2
  | .set => 3
  | .manage => 4
  | .data => 5
  | .done => 6
  | .none7 => 7

/-- The kind of a kind code (01 Table 1-1). -/
def Kind.ofCode (c : BitVec 3) : Kind :=
  match c.toNat with
  | 0 => .put
  | 1 => .signal
  | 2 => .get
  | 3 => .set
  | 4 => .manage
  | 5 => .data
  | 6 => .done
  | _ => .none7

/-- The class of each kind; kind code 7 is buffered as Stream (01 R3). -/
def Kind.cls : Kind → Cls
  | .put | .signal | .none7 => .stream
  | .get | .set | .manage => .query
  | .data | .done => .reply

/-- The bits of header byte 11 that carry a field of the kind; the others are marked zero (01 Table 1-3). -/
def Kind.infoMask : Kind → Byte
  | .put | .get | .set => 0x00
  | .signal => 0xBF
  | .manage => 0x3F
  | .data => 0x83
  | .done => 0x0F
  | .none7 => 0x00

/-- Status codes (01 Table 1-5). -/
def Status.code : Status → BitVec 4
  | .ok => 0
  | .failed => 1
  | .timeout => 2
  | .denied => 3
  | .noTarget => 4
  | .linkDown => 5
  | .declined => 6
  | .malformed => 7
  | .busy => 8
  | .state => 9
  | .range => 10

/-- Rate codes (08 R140). -/
def Rate.code : Rate → BitVec 2
  | .r3_2 => 1
  | .r6_4 => 2
  | .r12_8 => 3

/-- The rate of a rate code 1–3 (08 R140). -/
def Rate.ofCode? (c : Nat) : Option Rate :=
  match c with
  | 1 => some .r3_2
  | 2 => some .r6_4
  | 3 => some .r12_8
  | _ => none

/-- The lower of two rates. -/
def Rate.min (a b : Rate) : Rate := if a.code.toNat ≤ b.code.toNat then a else b

/-- `a` is below `b`. -/
def Rate.below (a b : Rate) : Bool := a.code.toNat < b.code.toNat

/-- The number of lanes of a width. -/
def Width.lanes : Width → Nat
  | .w4 => 4
  | .w8 => 8
  | .w16 => 16

/-- The width of 4, 8 or 16 lanes. -/
def Width.ofLanes? (n : Nat) : Option Width :=
  match n with
  | 4 => some .w4
  | 8 => some .w8
  | 16 => some .w16
  | _ => none

/-- The lower of two widths. -/
def Width.min (a b : Width) : Width := if a.lanes ≤ b.lanes then a else b

/-! ### Packet fields -/

/-- The length 1–256 (01 R5: the field holds the length minus one). -/
def Packet.length (k : Packet) : Nat := k.len.toNat + 1

/-- A length of L bytes occupies L rounded up to whole blocks (01 R6). -/
def blocksOf (length : Nat) : Nat := (length + 63) / 64

/-- The class the packet is buffered in (01 R3). -/
def Packet.cls (k : Packet) : Cls := k.kind.cls

/-- SIGNAL: the line (01 Table 1-3). -/
def Packet.line (k : Packet) : Fin 64 := ⟨k.info.toNat % 64, Nat.mod_lt _ (by decide)⟩

/-- SIGNAL: the level; DATA: the last flag (both bit 7 of byte 11, 01 Table 1-3). -/
def Packet.topInfo (k : Packet) : Bool := k.info.msb

/-- MANAGE: the command code (01 Table 1-3). -/
def Packet.command (k : Packet) : BitVec 6 := k.info.truncate 6

/-- DATA: the part number (01 Table 1-3). -/
def Packet.part (k : Packet) : Fin 4 := ⟨k.info.toNat % 4, Nat.mod_lt _ (by decide)⟩

/-- DONE: the status code (01 Table 1-3). -/
def Packet.status (k : Packet) : BitVec 4 := k.info.truncate 4

/-- A DONE, or a DATA marked last (01 Table 1-1, note 2). -/
def Packet.final (k : Packet) : Bool :=
  match k.kind with
  | .done => true
  | .data => k.topInfo
  | _ => false

/-- The cost of a packet: one header and its payload block count (06 R105). -/
def Packet.cost (k : Packet) : Amount Nat := { headers := 1, blocks := k.blocks.toNat }

/-! ### Header layout -/

/-- Byte `i` of an address, byte 0 holding bits 47–40 (01 Table 1-3). -/
def addrBytes (a : Addr) : List Byte :=
  [a.extractLsb' 40 8, a.extractLsb' 32 8, a.extractLsb' 24 8, a.extractLsb' 16 8, a.extractLsb' 8 8, a.extractLsb' 0 8]

/-- The address of six bytes, most significant first. -/
def addrOf (b0 b1 b2 b3 b4 b5 : Byte) : Addr := b0 ++ b1 ++ b2 ++ b3 ++ b4 ++ b5

/-- Byte 0 of a header: kind, ordered, speculative, payload block count (01 Table 1-3). -/
def Packet.byte0 (k : Packet) : Byte :=
  (k.kind.code ++ BitVec.ofBool k.ordered ++ BitVec.ofBool k.speculative ++ k.blocks : BitVec 8)

/-- The 12 header bytes (01 Table 1-3). -/
def Packet.headerBytes (k : Packet) : List Byte :=
  [k.byte0, k.src.zeroExtend 8, k.dst.zeroExtend 8, k.tag] ++ addrBytes k.addr ++ [k.len, k.info]

/-- The packet a header and a payload spell; bits marked zero are not examined (01 R5) and are dropped, since the part
sends them as zero (log 20). -/
def Packet.ofWire (h : Vector Byte 12) (payload : List Byte) : Packet :=
  let kind := Kind.ofCode (h[0].extractLsb' 5 3)
  { kind := kind, ordered := h[0].getLsbD 4, speculative := h[0].getLsbD 3, blocks := h[0].extractLsb' 0 3,
    src := h[1].truncate 5, dst := h[2].truncate 5, tag := h[3],
    addr := addrOf h[4] h[5] h[6] h[7] h[8] h[9], len := h[10], info := h[11] &&& kind.infoMask, payload := payload }

/-! ### Check values -/

/-- One bit of a cyclic redundancy check, most significant bit first, nothing reflected (07 R116). -/
def crcBit {w : Nat} (poly crc : BitVec w) (bit : Bool) : BitVec w :=
  if crc.msb != bit then (crc <<< 1) ^^^ poly else crc <<< 1

/-- One byte of a cyclic redundancy check, most significant bit first (07 R116). -/
def crcByte {w : Nat} (poly crc : BitVec w) (b : Byte) : BitVec w :=
  [7, 6, 5, 4, 3, 2, 1, 0].foldl (fun c i => crcBit poly c (b.getLsbD i)) crc

/-- A cyclic redundancy check over bytes in order, initial value all ones. -/
def crcBytes {w : Nat} (poly : BitVec w) (bytes : List Byte) : BitVec w :=
  bytes.foldl (crcByte poly) (BitVec.allOnes w)

/-- The 16-bit check value of a flit (07 R116): polynomial 0x1021, final value not inverted. -/
def crc16 (bytes : List Byte) : BitVec 16 := crcBytes 0x1021 bytes

/-- The 32-bit check value of a frame (07 R115): polynomial 0x741B8CD7, final value inverted. -/
def crc32 (bytes : List Byte) : BitVec 32 := ~~~ (crcBytes 0x741B8CD7 bytes)

/-- The sequence number padded to two bytes with four leading zero bits (07 R115). -/
def seqBytes (n : Seq) : List Byte := [(n.extractLsb' 8 4).zeroExtend 8, n.extractLsb' 0 8]

/-- The check value of a packet framed with a sequence number (07 R115). -/
def frameCheck (n : Seq) (k : Packet) : BitVec 32 := crc32 (seqBytes n ++ k.headerBytes ++ k.payload)

/-- The packet framed with a sequence number (07 R115). -/
def frame (n : Seq) (k : Packet) : Framed := { seq := n, pkt := k, check := frameCheck n k }

/-- The bytes of a 16-bit check value as they are sent, the most significant first (07 R116). -/
def checkBytes16 (c : BitVec 16) : Vector Byte 2 := #v[c.extractLsb' 8 8, c.extractLsb' 0 8]

/-- The bytes of a 32-bit check value as they are sent, the most significant first (07 R115, R116). -/
def checkBytes32 (c : BitVec 32) : Vector Byte 4 :=
  #v[c.extractLsb' 24 8, c.extractLsb' 16 8, c.extractLsb' 8 8, c.extractLsb' 0 8]

/-- The check value of a received frame is good (07 R115), and the frame has the length its header gives (log 19). -/
def goodFrame (f : RxFrame) : Bool :=
  f.sized && f.check == checkBytes32 (crc32 (seqBytes f.seq ++ f.header.toList ++ f.payload))

/-- The packet of a received frame. -/
def framePacket (f : RxFrame) : Packet := Packet.ofWire f.header f.payload

/-- The 12 header bytes as a vector. -/
def Packet.headerVec (k : Packet) : Vector Byte 12 := ⟨k.headerBytes.toArray, by simp [headerBytes, addrBytes]⟩

/-- A framed packet as it stands on the lanes (07 R115). -/
def Framed.onLanes (f : Framed) : RxFrame :=
  { seq := f.seq, header := f.pkt.headerVec, payload := f.pkt.payload, check := checkBytes32 f.check }

/-- A packet as it stands on the lanes when it arrives undamaged (07 R115). -/
def sealFrame (n : Seq) (k : Packet) : RxFrame := (frame n k).onLanes

/-! ### Flit layout -/

/-- Six byte counts, Stream, Query, Reply, headers before blocks (07 Table 7-2). -/
def countBytes (c : PerClass (Amount Byte)) : List Byte :=
  [c.stream.headers, c.stream.blocks, c.query.headers, c.query.blocks, c.reply.headers, c.reply.blocks]

/-- Byte 0 of a flit (07 Table 7-2). -/
def codeByte (c : FlitCode) : Byte := BitVec.ofNat 8 (16 * c.code)

/-- The bytes of a flit (07 Table 7-2). -/
def Flit.encode : Flit → List Byte
  | .idle => [codeByte .idle]
  | .train marker rate => [codeByte .train, (BitVec.ofBool marker ++ (0 : BitVec 5) ++ rate.code : BitVec 8)]
  | .config c => [codeByte .config, BitVec.ofNat 8 c.maxWidth.lanes,
      (BitVec.ofBool c.restart ++ (0 : BitVec 5) ++ c.maxRate.code : BitVec 8)] ++ countBytes c.credits
  | .ack n => codeByte .ack :: seqBytes n
  | .nak n => codeByte .nak :: seqBytes n
  | .credit t => codeByte .credit :: countBytes t
  | .park => [codeByte .park]
  | .wake => [codeByte .wake]
  | .reset => [codeByte .reset]

/-- The sequence number of an ACK or NAK flit's bytes 1 and 2 (07 Table 7-2). -/
def seqOf (hi lo : Byte) : Seq := (hi.truncate 4 : BitVec 4) ++ lo

/-- The CONFIG flit of its bytes 1 and 2 and its credits; none where the width or the rate is outside its encoding (07
Table 7-2). -/
def configOf? (w x : Byte) (credits : PerClass (Amount Byte)) : Option Flit :=
  match Width.ofLanes? (w.toNat % 32), Rate.ofCode? (x.toNat % 4) with
  | some width, some rate => some (.config ⟨width, x.msb, rate, credits⟩)
  | _, _ => none

/-- The flit of a code with the bytes after byte 0; none where the code is 9–15, a field holds a value outside its
encoding, or the bytes are not as many as the flit has (07 Table 7-2, R116; log 19). -/
def Flit.ofBody (code : Nat) (rest : List Byte) : Option Flit :=
  match code with
  | 0 => match rest with
    | [] => some .idle
    | _ => none
  | 1 => match rest with
    | [x] => (Rate.ofCode? (x.toNat % 4)).map (Flit.train x.msb)
    | _ => none
  | 2 => match rest with
    | [w, x, sh, sb, qh, qb, rh, rb] => configOf? w x ⟨⟨sh, sb⟩, ⟨qh, qb⟩, ⟨rh, rb⟩⟩
    | _ => none
  | 3 => match rest with
    | [hi, lo] => some (.ack (seqOf hi lo))
    | _ => none
  | 4 => match rest with
    | [hi, lo] => some (.nak (seqOf hi lo))
    | _ => none
  | 5 => match rest with
    | [sh, sb, qh, qb, rh, rb] => some (.credit ⟨⟨sh, sb⟩, ⟨qh, qb⟩, ⟨rh, rb⟩⟩)
    | _ => none
  | 6 => match rest with
    | [] => some .park
    | _ => none
  | 7 => match rest with
    | [] => some .wake
    | _ => none
  | 8 => match rest with
    | [] => some .reset
    | _ => none
  | _ => none

/-- The flit that bytes spell; none where a flit is discarded (07 R116). Bits marked zero are not examined. -/
def Flit.decode (bytes : List Byte) : Option Flit :=
  match bytes with
  | [] => none
  | b :: rest => Flit.ofBody (b.toNat / 16) rest

/-- A flit as it stands on the lanes when it arrives undamaged (07 R116). -/
def Flit.onLanes (f : Flit) : RawFlit := { bytes := f.encode, check := checkBytes16 (crc16 f.encode) }

/-- What a sent item is on the lanes: a flit's bytes or a frame's, each with its check bytes (07 R115, R116). -/
def LaneItem.onLanes : LaneItem → RawFlit ⊕ RxFrame
  | .flit f => .inl f.onLanes
  | .packet f => .inr f.onLanes

/-- The flit a Link Unit takes from the lanes; none where the flit is discarded (07 R115, R116). -/
def readFlit (r : RawFlit) : Option Flit := if r.check == checkBytes16 (crc16 r.bytes) then Flit.decode r.bytes else none

end Sys2Proof.Machine
end

