-- ==== Sys2Proof/Machine/Ops.lean ====
section
/-! DEFINITION. The named operations every meaning is made of: reading and writing one piece of the part's state, the
time base, raising a capture record, admission into an egress queue, notifying a line, delivering a management reply. -/

namespace Sys2Proof.Machine

/-! ### One home for every piece -/

def Bridge.port (b : Bridge) (p : Port) : PortState := b.ports.get p

def Bridge.setPort (b : Bridge) (p : Port) (x : PortState) : Bridge := { b with ports := b.ports.set p x }

/-- Change one port's state. -/
def Bridge.onPort (b : Bridge) (p : Port) (f : PortState → PortState) : Bridge := b.setPort p (f (b.port p))

/-- The state of a port's state machine (08 R129). -/
def Bridge.linkState (b : Bridge) (p : Port) : LinkState := (b.port p).record.state

def Bridge.setLinkState (b : Bridge) (p : Port) (x : LinkState) : Bridge :=
  b.onPort p fun s => { s with record := { s.record with state := x } }

/-- The port is DOWN. -/
def Bridge.isDown (b : Bridge) (p : Port) : Bool := b.linkState p == .down

/-- The port is ACTIVE. -/
def Bridge.isActive (b : Bridge) (p : Port) : Bool := b.linkState p == .active

def Bridge.queue (b : Bridge) (p : Port) (c : Cls) : List Queued := (b.port p).egress.queues.get c

def Bridge.setQueue (b : Bridge) (p : Port) (c : Cls) (q : List Queued) : Bridge :=
  b.onPort p fun s => { s with egress := { s.egress with queues := s.egress.queues.set c q } }

def Bridge.pool (b : Bridge) (p : Port) (c : Cls) : List Packet := (b.port p).ingress.pools.get c

def Bridge.setPool (b : Bridge) (p : Port) (c : Cls) (q : List Packet) : Bridge :=
  b.onPort p fun s => { s with ingress := { s.ingress with pools := s.ingress.pools.set c q } }

def Bridge.account (b : Bridge) (p : Port) (c : Cls) : RxAccount := (b.port p).ingress.account.get c

def Bridge.onAccount (b : Bridge) (p : Port) (c : Cls) (f : RxAccount → RxAccount) : Bridge :=
  b.onPort p fun s =>
    { s with ingress := { s.ingress with account := s.ingress.account.set c (f (s.ingress.account.get c)) } }

def Bridge.onSend (b : Bridge) (p : Port) (f : SendSide → SendSide) : Bridge :=
  b.onPort p fun s => { s with send := f s.send }

def Bridge.onRecv (b : Bridge) (p : Port) (f : RecvSide → RecvSide) : Bridge :=
  b.onPort p fun s => { s with recv := f s.recv }

def Bridge.onTraining (b : Bridge) (p : Port) (f : Training → Training) : Bridge :=
  b.onPort p fun s => { s with training := f s.training }

def Bridge.onRecord (b : Bridge) (p : Port) (f : PortRecord → PortRecord) : Bridge :=
  b.onPort p fun s => { s with record := f s.record }

/-- Put an item on transmit lanes of a port (log 7). -/
def Bridge.emit (b : Bridge) (p : Port) (x : Sent) : Bridge := b.onPort p fun s => { s with out := s.out ++ [x] }

/-- Put an item on the lanes in use: in ACTIVE, PARKED and WAKING, those of the agreed width (08 Table 8-1). -/
def Bridge.emitInUse (b : Bridge) (p : Port) (i : LaneItem) : Bridge := b.emit p ⟨i, (b.port p).record.width⟩

def Bridge.entry (b : Bridge) (d : Dir) (e : Fin 64) : Entry := (b.tables.get d)[e]

def Bridge.setEntry (b : Bridge) (d : Dir) (e : Fin 64) (x : Entry) : Bridge :=
  { b with tables := b.tables.set d ((b.tables.get d).set e x) }

def Bridge.slot (b : Bridge) (i : Fin 32) : Slot := b.slots[i]

def Bridge.setSlot (b : Bridge) (i : Fin 32) (x : Slot) : Bridge := { b with slots := b.slots.set i x }

def Bridge.line (b : Bridge) (i : Fin 64) : Line := b.lines[i]

def Bridge.setLine (b : Bridge) (i : Fin 64) (x : Line) : Bridge := { b with lines := b.lines.set i x }

def Bridge.onEngine (b : Bridge) (f : Engine → Engine) : Bridge := { b with engine := f b.engine }

/-- Do something for every entry of a table, in index order. -/
def Bridge.forEntries (b : Bridge) (f : Fin 64 → Bridge → Bridge) : Bridge :=
  (List.finRange 64).foldl (fun b e => f e b) b

/-- Do something for every line, lowest number first. -/
def Bridge.forLines (b : Bridge) (f : Fin 64 → Bridge → Bridge) : Bridge :=
  (List.finRange 64).foldl (fun b i => f i b) b

/-! ### Time -/

/-- The time base has reached a moment. The time base wraps, so a moment counts as reached for half the wrap period
from it on (00_scope.md section 7; log 2). -/
def reached (now moment : Time) : Bool := (now - moment).toNat < 2 ^ 31

/-- The moment a number of µs after another, modulo 2^32. -/
def after (t : Time) (us : Nat) : Time := t + BitVec.ofNat 32 us

/-- The moment a number of ms after another: 1,000 times the setting (04 R71, R72). -/
def afterMs (t : Time) (ms : Nat) : Time := after t (1000 * ms)

/-- One µs of the time base. While RST_N is low it is left open whether the time base counts (log 3). -/
def Bridge.tick (b : Bridge) : Bridge :=
  if b.rstLow && !Config.countsWhileHeld then b else { b with timeBase := b.timeBase + 1 }

/-! ### Free order -/

/-- Put an element at a place counted from the front; past the end it goes last. -/
def insertAt {α : Type} (x : α) : List α → Nat → List α
  | [], _ => [x]
  | y :: ys, 0 => x :: y :: ys
  | y :: ys, n + 1 => y :: insertAt x ys n

/-- A list in an order the manual leaves open, by the free choices from `ctr` on (log 6). Every order is a possible
outcome. -/
def freeOrder {α : Type} (ctr : Nat) : List α → List α
  | [] => []
  | x :: xs => insertAt x (freeOrder (ctr + 1) xs) (Config.pick ctr % (xs.length + 1))

/-! ### Originated packets (01 R12, Table 1-9) -/

/-- A packet with every field zero, to be filled by kind (01 R4). -/
def Packet.zero (kind : Kind) : Packet :=
  { kind := kind, ordered := false, speculative := false, blocks := 0, src := 0, dst := 0, tag := 0, addr := 0,
    len := 0, info := 0, payload := [] }

/-- A DONE the part originates, without payload (01 R12). -/
def donePacket (bridge dst : UnitNo) (tag : Tag) (status : Status) : Packet :=
  { Packet.zero .done with src := bridge, dst := dst, tag := tag, info := status.code.zeroExtend 8 }

/-- Zero bytes. -/
def zeros (n : Nat) : List Byte := List.replicate n 0

/-- The notification PUT of a line (01 Table 1-9, 09 R153). -/
def notificationPut (bridge : UnitNo) (l : Line) : Packet :=
  { Packet.zero .put with
    src := bridge, addr := l.target, len := 3, blocks := 1,
    payload := [l.payload.extractLsb' 0 8, l.payload.extractLsb' 8 8, l.payload.extractLsb' 16 8,
      l.payload.extractLsb' 24 8] ++ zeros 60 }

/-! ### Capture records -/

/-- A record with no optional field (11 R180). -/
def bareRecord (kind : RecordKind) (p : Port) (now : Time) : Record :=
  { kind := kind, port := p, stamp := now, src := none, addr := none, tag := none, slot := none, status := none,
    count := none }

/-- A record enters the queue as its newest, or is dropped and sets the overflowed flag (11 R179). The queue then
holds a record, so line 0's level is asserted (11 R183). What line 0 does about it is `recordWith`'s. -/
def Bridge.enterRecord (b : Bridge) (r : Record) : Bridge :=
  let b := if b.capture.length < Config.capturePlaces then { b with capture := b.capture ++ [r] }
    else { b with overflowed := true }
  b.setLine 0 { b.line 0 with level := true }

/-- The notify condition of a line (09 Table 9-1, note 1). -/
def Line.due (l : Line) : Bool := l.enabled && !l.masked && l.level

/-- The DISCARDED record of a packet pushed to a DOWN port (05 R100, Table 5-3). -/
def discardRecord (p : Port) (k : Packet) (now : Time) : Record :=
  { bareRecord .discarded p now with
    src := some k.src,
    addr := match k.kind with | .put | .get | .set => some k.addr | _ => none,
    tag := match k.kind with | .get | .set | .data | .done => some k.tag | _ => none,
    status := match k.kind with | .done => some k.status | _ => none,
    count := some 1 }

/-! ### Admission (chapter 5) -/

/-- A packet on its way into an egress queue. `wakes` is no for the one reply whose admission starts no wake
(08 R142). -/
structure Push where
  port : Port
  cls : Cls
  pkt : Packet
  mark : Option Mark
  wakes : Bool
  deriving DecidableEq, Repr

/-- A push of a packet without entry mark, into the queue of its class. -/
def Push.plain (p : Port) (k : Packet) : Push := { port := p, cls := k.cls, pkt := k, mark := none, wakes := true }

/-- A push of a management reply, into the Reply queue (10 R169). -/
def Push.reply (p : Port) (k : Packet) : Push := { port := p, cls := .reply, pkt := k, mark := none, wakes := true }

/-- A queue has a free place (05 R87). -/
def Bridge.hasRoom (b : Bridge) (p : Port) (c : Cls) : Bool := (b.queue p c).length < Config.egressPlaces

/-- A place is present: a free one, or the port is DOWN and needs none (05 R89, R91, R100). -/
def Bridge.hasPlace (b : Bridge) (p : Port) (c : Cls) : Bool := b.isDown p || b.hasRoom p c

/-- The packet enters its queue with the port's next arrival stamp (05 R88). -/
def Bridge.enqueue (b : Bridge) (x : Push) : Bridge :=
  let stamp := (b.port x.port).egress.admissions
  let b := b.setQueue x.port x.cls (b.queue x.port x.cls ++ [{ pkt := x.pkt, stamp := stamp, mark := x.mark }])
  b.onPort x.port fun s => { s with egress := { s.egress with admissions := stamp + 1 } }

/-- A PARKED port starts its wake: WAKING, and its WAKE flit is sent (08 R143). -/
def Bridge.startWake (b : Bridge) (p : Port) : Bridge :=
  let b := b.setLinkState p .waking
  let b := b.onTraining p fun t => { t with wakeStart := b.timeBase, lastWake := b.timeBase }
  b.emitInUse p (.flit .wake)

/-- An admission: the packet enters its queue, and in PARKED the admission starts the wake (05 R89, 08 R143). -/
def Bridge.place (b : Bridge) (x : Push) : Bridge :=
  let b := b.enqueue x
  if x.wakes && b.linkState x.port == .parked then b.startWake x.port else b

/-- The deferred command is the LINK_PARK draining this port. -/
def Deferred.parks (d : Deferred) (p : Port) : Bool :=
  match d.op with
  | .park q _ => q == p
  | _ => false

/-- The bytes of a management reply's payload (10 Table 10-2): none for a reply with no reply data. -/
def replyPayload (code : BitVec 6) (data : List Byte) : List Byte :=
  if data.isEmpty then []
  else
    let used := 4 + data.length
    [BitVec.ofNat 8 data.length, code.zeroExtend 8, 0, 0] ++ data ++ zeros (64 * blocksOf used - used)

/-- The DONE that answers a management command (10 R166, 01 Table 1-9). -/
def replyPacket (bridge dst : UnitNo) (tag : Tag) (code : BitVec 6) (status : Status) (data : List Byte) : Packet :=
  let payload := replyPayload code data
  { donePacket bridge dst tag status with blocks := BitVec.ofNat 3 (payload.length / 64), payload := payload }

/-- Command codes of the three commands that may be deferred (10 Table 10-4). -/
def DeferredOp.code : DeferredOp → BitVec 6
  | .retire _ => 26
  | .retrain _ _ => 10
  | .park _ _ => 11

/-- The reply of a deferred command whose operation has ended (10 R171). -/
def Deferred.reply (d : Deferred) (bridge : UnitNo) (status : Status) (data : List Byte) : MgmtReply :=
  { port := d.port, pkt := replyPacket bridge d.src d.tag d.op.code status data, immediate := false }

/-- A line notifies: its notification is pushed and it goes OUTSTANDING, or it goes PENDING when the Root Stream queue
has no place (09 R152). `push` admits the notification. -/
def notifyWith (push : Push → Bridge → Bridge) (i : Fin 64) (b : Bridge) : Bridge :=
  let l := b.line i
  if b.hasPlace .root .stream then
    push (Push.plain .root (notificationPut b.unit l)) (b.setLine i { l with state := .outstanding })
  else b.setLine i { l with state := .pending }

/-- A record is raised and enters the queue (11 R179). When the queue was empty, line 0 is asserted, and an IDLE line 0
whose notify condition now holds notifies in the same event (09 R151, R152). -/
def recordWith (push : Push → Bridge → Bridge) (r : Record) (b : Bridge) : Bridge :=
  let wasEmpty := b.capture.isEmpty
  let b := b.enterRecord r
  if wasEmpty && (b.line 0).state == .idle && (b.line 0).due then notifyWith push 0 b else b

/-- A formed reply is pushed in the event that formed it. Toward a DOWN port it is discarded there at once (05 R100);
elsewhere it is admitted when its queue has a free place and no older reply waits for it, else it waits in the engine.
That it waits behind an older one where a place is free in that event is the model's choice (log 31). An immediate
reply that is admitted frees the command queue head (10 R163, R169). -/
def deliverWith (push : Push → Bridge → Bridge) (r : MgmtReply) (wakes : Bool) (b : Bridge) : Bridge :=
  if b.isDown r.port || (b.hasRoom r.port .reply && !(b.engine.waiting.any fun w => w.port == r.port)) then
    let b := if r.immediate then b.onEngine fun e => { e with queue := e.queue.tail } else b
    push { Push.reply r.port r.pkt with wakes := wakes } b
  else b.onEngine fun e => { e with waiting := e.waiting ++ [r] }

/-- The LINK_PARK drain of a port, if one is listed, fails: DONE BUSY (08 R142). -/
def failDrainWith (push : Push → Bridge → Bridge) (p : Port) (b : Bridge) : Bridge :=
  match b.engine.deferred.find? (·.parks p) with
  | none => b
  | some d =>
    let b := b.onEngine fun e => { e with deferred := e.deferred.eraseP (·.parks p) }
    deliverWith push (d.reply b.unit .busy []) true b

/-- A push whose place is present. At a DOWN port the packet is discarded with its record (05 R100); elsewhere it is
admitted, and the admission makes a LINK_PARK drain of the port fail (08 R142). A failing drain's reply, and a record
that asserts line 0, push further packets: `fuel` bounds that nesting, and 5 is enough (log 25). -/
def pushWith : Nat → Push → Bridge → Bridge
  | 0, x, b => if b.isDown x.port then b.enterRecord (discardRecord x.port x.pkt b.timeBase) else b.place x
  | fuel + 1, x, b =>
    if b.isDown x.port then recordWith (pushWith fuel) (discardRecord x.port x.pkt b.timeBase) b
    else failDrainWith (pushWith fuel) x.port (b.place x)

/-- Push a packet whose place is present. -/
def push (x : Push) (b : Bridge) : Bridge := pushWith 5 x b

/-- The admission of a push alone: none at a DOWN port. -/
def enter (x : Push) (b : Bridge) : Bridge := if b.isDown x.port then b else b.place x

/-- What a push brings about beside its admission: the record of a packet discarded at a DOWN port, or the failing of a
LINK_PARK drain. -/
def follow (x : Push) (b : Bridge) : Bridge :=
  if b.isDown x.port then recordWith push (discardRecord x.port x.pkt b.timeBase) b else failDrainWith push x.port b

/-- Push two packets, each of whose places is present: both places are taken before anything a push brings about could
take one (05 R91; log 30). That all `x` brings about (the BUSY reply of a drain it makes fail, its DISCARDED record)
comes before all `y` brings about is the model's choice (log 31; 10 R169 and 11 R179: either order). -/
def pushBoth (x y : Push) (b : Bridge) : Bridge := follow y (follow x (enter y (enter x b)))

/-- Raise a capture record. -/
def raise (r : Record) (b : Bridge) : Bridge := recordWith push r b

/-- Raise a capture record, if there is one. -/
def raiseIf (r : Option Record) (b : Bridge) : Bridge :=
  match r with
  | none => b
  | some r => raise r b

/-- A line notifies (09 R152). -/
def notify (i : Fin 64) (b : Bridge) : Bridge := notifyWith push i b

/-- An IDLE line whose notify condition holds notifies (09 R152). -/
def notifyIfDue (i : Fin 64) (b : Bridge) : Bridge :=
  if (b.line i).state == .idle && (b.line i).due then notify i b else b

/-- Cancel the waiting notification of a PENDING line (09 R152, R154). -/
def cancelNotification (i : Fin 64) (b : Bridge) : Bridge :=
  let l := b.line i
  if l.state == .pending then b.setLine i { l with state := .idle } else b

/-- Deliver a management reply (10 R169). -/
def deliver (r : MgmtReply) (b : Bridge) : Bridge := deliverWith push r true b

/-- The LINK_PARK drain of a port fails (08 R142). -/
def failDrain (p : Port) (b : Bridge) : Bridge := failDrainWith push p b

/-! ### References and entries (02 section 2.4, chapter 4) -/

/-- The deferred command is the WINDOW_RETIRE of this slot. -/
def Deferred.retires (d : Deferred) (i : Fin 32) : Bool :=
  match d.op with
  | .retire j => j == i
  | _ => false

/-- The drain of a slot has ended: its listed WINDOW_RETIRE, if any, is answered DONE OK (02 R22, 10 R171). -/
def answerRetire (i : Fin 32) (b : Bridge) : Bridge :=
  match b.engine.deferred.find? (·.retires i) with
  | none => b
  | some d =>
    let b := b.onEngine fun e => { e with deferred := e.deferred.eraseP (·.retires i) }
    deliver (d.reply b.unit .ok []) b

/-- An entry that records a window slot goes FREE: the slot's count falls by one, and a DRAINING slot whose count
reaches 0 goes FREE with its record cleared (02 R31, R22). -/
def releaseSlot (i : Fin 32) (b : Bridge) : Bridge :=
  let s := b.slot i
  if s.state == .draining && s.inflight == 1 then answerRetire i (b.setSlot i Slot.free)
  else b.setSlot i { s with inflight := s.inflight - 1 }

/-- An entry goes FREE, releasing its window reference in the same event (02 R31, 04 R62). -/
def freeEntry (d : Dir) (e : Fin 64) (b : Bridge) : Bridge :=
  let slot := (b.entry d e).slot
  let b := b.setEntry d e Entry.free
  match slot with
  | none => b
  | some i => releaseSlot i b

/-- An entry goes into QUARANTINE from now on; pending status and reply seen become absent (04 R72). -/
def quarantine (d : Dir) (e : Fin 64) (b : Bridge) : Bridge :=
  b.setEntry d e { b.entry d e with
    state := .quarantine, owed := none, replySeen := false, quarEnd := afterMs b.timeBase b.quarantineMs }

/-- An entry goes to RETURNING owing a status, reply seen no (04 R69, R71, R82). -/
def owe (d : Dir) (e : Fin 64) (status : Status) (b : Bridge) : Bridge :=
  b.setEntry d e { b.entry d e with state := .returning, owed := some status, replySeen := false }

/-- The DONE a RETURNING entry owes its requester (04 R65, 01 R12). -/
def owedDone (bridge : UnitNo) (x : Entry) : Packet := donePacket bridge x.reqUnit x.reqTag (x.owed.getD .failed)

/-- A RETURNING entry's DONE is pushed, and the entry goes FREE when reply seen is yes or its position is CLEARED, and
into QUARANTINE otherwise (04 R72). That all the push brings about (its DISCARDED record at a DOWN port, the BUSY
reply of a drain it makes fail) comes before the DONE OK of a retire the freed entry ends, and that one's DISCARDED
record, is the model's choice (log 31; 10 R169 and 11 R179: either order). -/
def pushOwed (d : Dir) (e : Fin 64) (b : Bridge) : Bridge :=
  let x := b.entry d e
  let b := push (Push.plain d.requesterPort (owedDone b.unit x)) b
  if x.replySeen || x.pos == .cleared then freeEntry d e b else quarantine d e b

end Sys2Proof.Machine
end

