-- ==== Sys2Proof/Machine/Flags.lean ====
section
/-! DEFINITION. The judgements the events are decided by: form rules (01 Table 1-4), window lookup and checks
(chapter 2, 03 sections 3.4 and 3.5), reply judgement (04 R67), eligibility (05 R92, R93), overrun (06 R110), plan and
activation checks. -/

namespace Sys2Proof.Machine

/-! ### Form -/

/-- The packet breaks a row of 01 Table 1-4, judged at the port it is taken at (01 R7). -/
def malformed (p : Port) (k : Packet) : Bool :=
  let blocks := k.blocks.toNat
  let crosses := k.addr.toNat % 4096 + k.length > 4096
  let common := blocks > 4 || (k.speculative && k.kind != .get)
  match k.kind with
  | .none7 => true
  | .put | .set => common || blocks != blocksOf k.length || crosses
  | .get => common || blocks != 0 || crosses
  | .signal => common || blocks != 0 || p == .root || k.line == 0
  | .manage => common
  | .data => common || blocks == 0
  | .done => common || k.status.toNat > 10

/-! ### Lookup and checks -/

/-- The last address of a window is below base + 2^n (02 R26). -/
def WindowRecord.holds (w : WindowRecord) (a : Addr) : Bool :=
  w.base.toNat ≤ a.toNat && a.toNat < w.base.toNat + 2 ^ w.sizeExp.toNat

/-- The slot is considered in a lookup of this direction and hits (02 R26). -/
def Slot.hits (s : Slot) (d : Dir) (a : Addr) : Bool :=
  s.state == .live && s.window.direction == d && s.window.holds a

/-- The lowest-numbered hitting slot, or a miss (02 R26, R27). -/
def Bridge.lookup (b : Bridge) (d : Dir) (a : Addr) : Option (Fin 32) :=
  (List.finRange 32).find? fun i => (b.slot i).hits d a

/-- The address an access leaves with (02 R28). -/
def WindowRecord.translate (w : WindowRecord) (a : Addr) : Addr :=
  match w.translation with
  | none => a
  | some t => t + (a - w.base)

/-- The unit is a member of the group (02 R34). -/
def Bridge.member (b : Bridge) (u : UnitNo) (g : Fin 8) : Bool := b.groups[g].getLsbD u.toNat

/-- The group and permission checks of a window for a packet (03 R47, R49). -/
def Bridge.allowed (b : Bridge) (w : WindowRecord) (k : Packet) : Bool :=
  b.member k.src w.group && (if k.kind == .get then w.readAllowed else w.writeAllowed)

/-- The speculation check (03 R49). -/
def declined (w : WindowRecord) (k : Packet) : Bool := k.kind == .get && k.speculative && !w.specAllowed

/-- The base is a multiple of 2^n. -/
def aligned (a : Addr) (n : Nat) : Bool := a.toNat % 2 ^ n == 0

/-- The activation checks of 02 Table 2-4. -/
def WindowRecord.activates (w : WindowRecord) : Bool :=
  let n := w.sizeExp.toNat
  (12 ≤ n && n ≤ 48) && aligned w.base n && (n != 48 || w.base == 0) &&
    (match w.translation with
     | none => true
     | some t => aligned t n && (n != 48 || t == 0))

/-! ### Query entries -/

/-- The lowest-numbered FREE entry of a table (04 R64). -/
def Bridge.freeEntry? (b : Bridge) (d : Dir) : Option (Fin 64) :=
  (List.finRange 64).find? fun e => (b.entry d e).state == .free

/-- The lowest-numbered RETURNING entry of a table (05 Table 5-2, rank 1). -/
def Bridge.returning? (b : Bridge) (d : Dir) : Option (Fin 64) :=
  (List.finRange 64).find? fun e => (b.entry d e).state == .returning

/-- The lowest-numbered PENDING line (05 Table 5-2, rank 3). -/
def Bridge.pendingLine? (b : Bridge) : Option (Fin 64) :=
  (List.finRange 64).find? fun i => (b.line i).state == .pending

/-- The reply is good for the entry (04 R67). -/
def goodReply (x : Entry) (k : Packet) : Bool :=
  let blocks := k.blocks.toNat
  match x.kind, k.kind with
  | .get, .data =>
    x.nextPart == some k.part &&
      (if k.topInfo then x.delivered + blocks == x.reqBlocks else x.delivered + blocks ≤ x.reqBlocks)
  | .get, .done | .set, .done => blocks == 0
  | .manage, .done => true
  | _, _ => false

/-- The entry after a good DATA that is not final (04 R68). -/
def Entry.advance (x : Entry) (k : Packet) : Entry :=
  { x with
    delivered := x.delivered + k.blocks.toNat,
    nextPart := if h : k.part.val + 1 < 4 then some ⟨k.part.val + 1, h⟩ else none }

/-! ### Egress -/

/-- The head of the class is ordered-blocked (05 R92, condition 3). -/
def Bridge.orderedBlocked (b : Bridge) (p : Port) (c : Cls) (x : Queued) : Bool :=
  c != .stream && x.pkt.ordered && (b.queue p .stream).any fun y => y.stamp < x.stamp

/-- The held credits cover the packet (05 R92, condition 2). -/
def SendAccount.covers (a : SendAccount) (k : Packet) : Bool :=
  1 ≤ a.held.headers && (k.blocks.toNat : Int) ≤ a.held.blocks

/-- The class is eligible (05 R92). -/
def Bridge.eligible (b : Bridge) (p : Port) (c : Cls) : Bool :=
  match b.queue p c with
  | [] => false
  | x :: _ => ((b.port p).credit.get c).covers x.pkt && !b.orderedBlocked p c x && b.isActive p

/-- The Link Unit can begin a new packet (05 R93): ACTIVE, no replay, a free replay entry. -/
def Bridge.sendOpportunity (b : Bridge) (p : Port) : Bool :=
  let s := (b.port p).send
  b.isActive p && s.replayPos.isNone && s.buffer.length < Config.replayEntries

/-- The classes in the tie order of 05 R96. -/
def tieOrder : List Cls := [.reply, .stream, .query]

/-- The better of the winner so far and the next class of the tie order: a smaller current priority wins, a tie goes
to the earlier class (05 R96). -/
def betterClass (cur : PerClass Nat) (best : Option Cls) (c : Cls) : Option Cls :=
  match best with
  | none => some c
  | some w => if cur.get c < cur.get w then some c else some w

/-- The winner of a decision: the eligible class with the smallest current priority, ties in tie order (05 R96). -/
def Bridge.winner (b : Bridge) (p : Port) : Option Cls :=
  (tieOrder.filter (b.eligible p)).foldl (betterClass (b.port p).egress.current) none

/-- The current priorities after a decision won by `w` (05 R96). -/
def Bridge.aged (b : Bridge) (p : Port) (w : Cls) : PerClass Nat :=
  let e := (b.port p).egress
  let one := fun c => if c = w then e.start.get c else if b.eligible p c then e.current.get c - 1 else e.current.get c
  { stream := one .stream, query := one .query, reply := one .reply }

/-- The three egress queues and the replay buffer of a port are empty (08 R130, R142). -/
def Bridge.drained (b : Bridge) (p : Port) : Bool :=
  (b.queue p .stream).isEmpty && (b.queue p .query).isEmpty && (b.queue p .reply).isEmpty &&
    (b.port p).send.buffer.isEmpty

/-! ### Credit and plans -/

/-- A class has freed credit to return (06 R107). -/
def RxAccount.owes (a : RxAccount) : Bool := 0 < a.freed.headers || 0 < a.freed.blocks

/-- The port has freed credit to return (06 R107). -/
def Bridge.creditDue (b : Bridge) (p : Port) : Bool :=
  (b.account p .stream).owes || (b.account p .query).owes || (b.account p .reply).owes

/-- The occupied headers or blocks of all three classes together (06 R110). -/
def Bridge.occupiedAll (b : Bridge) (p : Port) : Amount Nat :=
  let s := (b.account p .stream).occupied
  let q := (b.account p .query).occupied
  let r := (b.account p .reply).occupied
  { headers := s.headers + q.headers + r.headers, blocks := s.blocks + q.blocks + r.blocks }

/-- The packet is a credit overrun (06 R110). -/
def Bridge.overrun (b : Bridge) (p : Port) (k : Packet) : Bool :=
  let a := b.account p k.cls
  let all := b.occupiedAll p
  a.outstanding.headers - k.cost.headers < -(a.allowance.headers : Int) ||
    a.outstanding.blocks - k.cost.blocks < -(a.allowance.blocks : Int) ||
    all.headers + k.cost.headers > Config.ingressHeaders || all.blocks + k.cost.blocks > Config.ingressBlocks

/-- A buffer plan is valid (06 R103). -/
def validPlan (x : PerClass (Amount Nat)) : Bool :=
  x.stream.headers + x.query.headers + x.reply.headers == Config.ingressHeaders &&
    x.stream.blocks + x.query.blocks + x.reply.blocks == Config.ingressBlocks &&
    2 ≤ x.stream.headers && 2 ≤ x.query.headers && 2 ≤ x.reply.headers &&
    4 ≤ x.stream.blocks && 4 ≤ x.query.blocks && 4 ≤ x.reply.blocks

/-! ### Lanes -/

/-- Every lane below a width is PASSED (08 R133). -/
def lanesPass (lanes : Vector LaneRec 16) (w : Width) : Bool :=
  (lanes.toList.take w.lanes).all fun l => l.result == .passed

/-- The usable width of a sweep, capped by the width cap in force (08 R133). -/
def usableWidth (lanes : Vector LaneRec 16) (cap : Width) : Option Width :=
  if lanesPass lanes .w16 then some (Width.min .w16 cap)
  else if lanesPass lanes .w8 then some (Width.min .w8 cap)
  else if lanesPass lanes .w4 then some (Width.min .w4 cap)
  else none

/-- A run of consecutive passing codes: first and last (08 R132). -/
structure Run where
  first : Nat
  last : Nat
  deriving DecidableEq, Repr

/-- The number of codes of a run. -/
def Run.width (r : Run) : Nat := r.last - r.first + 1

/-- The wider of two runs; of two equally wide, the first given (08 R132). -/
def widerRun (best : Option Run) (r : Run) : Option Run :=
  match best with
  | none => some r
  | some x => if x.width < r.width then some r else some x

/-- Scan the codes from `code` on: `current` is the first code of the run being read, `best` the widest ended run. A
run ends at the first failing code, and the last at code 63; runs do not wrap (08 R132). -/
def scanCodes (passing : BitVec 64) : Nat → Nat → Option Nat → Option Run → Option Run
  | 0, code, current, best =>
    match current with
    | none => best
    | some f => widerRun best { first := f, last := code - 1 }
  | n + 1, code, current, best =>
    if passing.getLsbD code then scanCodes passing n (code + 1) (some (current.getD code)) best
    else
      match current with
      | none => scanCodes passing n (code + 1) none best
      | some f => scanCodes passing n (code + 1) none (widerRun best { first := f, last := code - 1 })

/-- The widest run of passing codes, the lowest first code among equals (08 R132). -/
def widestRun (passing : BitVec 64) : Option Run := scanCodes passing 64 0 none none

/-- The centre plus the trim, held to 0 below 0 and to 63 above 63 (08 R132). -/
def appliedCode (centre : Nat) (trim : Int) : Nat := min 63 ((centre : Int) + trim).toNat

/-- The record a sweep writes for one lane (08 R132). -/
def sweptLane (rate : Rate) (trim : Int) (passing : BitVec 64) : LaneRec :=
  match widestRun passing with
  | none => { LaneRec.cold with result := .failed, rate := rate }
  | some r =>
    let centre := (r.first + r.last) / 2
    { result := .passed, inUse := false, first := r.first, last := r.last, centre := centre,
      applied := appliedCode centre trim, rate := rate }

/-! ### The Management Engine -/

/-- The engine is free: no executed command's immediate reply waits (10 R164). -/
def Engine.free (e : Engine) : Bool := !(e.waiting.any (·.immediate))

/-- The deferred list has a free place (10 R168). -/
def Engine.deferredRoom (e : Engine) : Bool := e.deferred.length < Config.deferredPlaces

/-- The deferred command is a link command of this port (08 R139). -/
def Deferred.links (d : Deferred) (p : Port) : Bool :=
  match d.op with
  | .retire _ => false
  | .retrain q _ => q == p
  | .park q _ => q == p

/-- A link command of the port is listed (08 R139). -/
def Engine.linkListed (e : Engine) (p : Port) : Bool := e.deferred.any (·.links p)

end Sys2Proof.Machine
end

