-- ==== Sys2Proof/Machine/Operands.lean ====
section
/-! DEFINITION. The operands of the management commands and the layouts of their reply data: 10 Tables 10-1, 10-2 and
10-4, and the layout tables of the other chapters. -/

namespace Sys2Proof.Machine

/-! ### Reading operands -/

/-- The operand count of a command (10 R165): payload byte 0, or 0 with no payload block. -/
def Command.count (c : Command) : Nat := if c.blocks == 0 then 0 else (c.payload.getD 0 0).toNat

/-- The operand count is out of range (10 R165): above 252, or 4 plus the count above 64 times the block count.
By these words a MANAGE with no payload block is out of range (log 17). -/
def Command.countOutOfRange (c : Command) : Bool := c.count > 252 || 4 + c.count > 64 * c.blocks

/-- Operand byte `i` (10 Table 10-1: operand byte 0 is payload byte 4). -/
def Command.byte (c : Command) (i : Nat) : Byte := c.payload.getD (4 + i) 0

/-- Operand byte `i` as a number. -/
def Command.num (c : Command) (i : Nat) : Nat := (c.byte i).toNat

/-- A 16-bit operand, most significant byte first. -/
def Command.num16 (c : Command) (i : Nat) : Nat := 256 * c.num i + c.num (i + 1)

/-- The 48-bit address at operand byte `i`, bits 47–40 first. -/
def Command.addr (c : Command) (i : Nat) : Addr :=
  addrOf (c.byte i) (c.byte (i + 1)) (c.byte (i + 2)) (c.byte (i + 3)) (c.byte (i + 4)) (c.byte (i + 5))

/-- A number as an index below `n`, or none where it is out of range. -/
def index? (n v : Nat) : Option (Fin n) := if h : v < n then some ⟨v, h⟩ else none

/-- The port of a link command (08 R139): 0 Root, 1 Leaf. -/
def port? (v : Nat) : Option Port :=
  match v with
  | 0 => some .root
  | 1 => some .leaf
  | _ => none

/-- The ports a port selector names (05 R98, 06 R104, 08 R139): 0 Root, 1 Leaf, 2 both, 3 neither. -/
def selected? (v : Nat) : Option (List Port) :=
  match v with
  | 0 => some [.root]
  | 1 => some [.leaf]
  | 2 => some [.root, .leaf]
  | 3 => some []
  | _ => none

/-- A slot number in a whole operand byte, bits 7–5 zero (02 R17). -/
def Command.slot? (c : Command) : Option (Fin 32) := index? 32 (c.num 0)

/-- The slot number of WINDOW_LOAD, bits 4–0 of operand byte 0 (02 R16, R17). -/
def Command.loadSlot (c : Command) : Fin 32 := ⟨c.num 0 % 32, Nat.mod_lt _ (by decide)⟩

/-- The window record in WINDOW_LOAD's operands (02 R16, Table 2-2). -/
def Command.window (c : Command) : WindowRecord :=
  let flags := c.byte 2
  { direction := if flags.getLsbD 0 then .up else .down,
    base := c.addr 6, sizeExp := c.byte 4,
    translation := if flags.getLsbD 5 then some (c.addr 12) else none,
    readAllowed := flags.getLsbD 1, writeAllowed := flags.getLsbD 2,
    group := ⟨c.num 3 % 8, Nat.mod_lt _ (by decide)⟩,
    earlyAck := flags.getLsbD 3, specAllowed := flags.getLsbD 4 }

/-- The member set in operand bytes 1–4: byte 1 bit 0 is unit 0, byte 4 bit 7 unit 31 (02 Table 2-5). -/
def Command.members (c : Command) : BitVec 32 := c.byte 4 ++ c.byte 3 ++ c.byte 2 ++ c.byte 1

/-- The payload of SIGNAL_CONFIG: operand bytes 8–11 are bytes 0–3 of the notification payload (09 R159), and byte 0 is
the least significant (01 Table 1-9). -/
def Command.linePayload (c : Command) : BitVec 32 := c.byte 11 ++ c.byte 10 ++ c.byte 9 ++ c.byte 8

/-- The buffer plan in operand bytes 1–6 (06 R104). -/
def Command.plan (c : Command) : PerClass (Amount Nat) :=
  { stream := ⟨c.num 1, c.num 2⟩, query := ⟨c.num 3, c.num 4⟩, reply := ⟨c.num 5, c.num 6⟩ }

/-- A setting given in an operand byte: none where the byte is outside its values and its keep value, `some none`
where it is the keep value. -/
abbrev Given (α : Type) := Option (Option α)

/-- Width cap: 4, 8 or 16 lanes, 0 keeps (08 R140). -/
def widthGiven (v : Nat) : Given Width := if v = 0 then some none else (Width.ofLanes? v).map some

/-- Rate cap: codes 1–3, 0 keeps (08 R140). -/
def rateGiven (v : Nat) : Given Rate := if v = 0 then some none else (Rate.ofCode? v).map some

/-- Trim: −8 to +7 in two's complement, 0x80 keeps (08 R140). -/
def trimGiven (v : Byte) : Given Int :=
  if v = 0x80 then some none else if -8 ≤ v.toInt && v.toInt ≤ 7 then some (some v.toInt) else none

/-- Replay timeout: 5–255 µs, 0 keeps (08 R140). -/
def timeoutGiven (v : Nat) : Given Nat := if v = 0 then some none else if 5 ≤ v then some (some v) else none

/-- The settings LINK_SET gives, over the present pending settings; none where a byte is out of range (08 R140). -/
def Command.linkSettings (c : Command) (now : LinkSettings) : Option LinkSettings :=
  match widthGiven (c.num 1), rateGiven (c.num 2), trimGiven (c.byte 3), timeoutGiven (c.num 4) with
  | some w, some r, some t, some o =>
    some { widthCap := w.getD now.widthCap, rateCap := r.getD now.rateCap, trim := t.getD now.trim,
           replayTimeout := o.getD now.replayTimeout }
  | _, _, _, _ => none

/-- A start priority: 0–15, 255 keeps (05 R98). -/
def priorityGiven (v : Nat) : Given Nat := if v = 255 then some none else if v ≤ 15 then some (some v) else none

/-- The start priorities ARBITER_SET gives, over the present ones (05 R98: bytes 1–3 are Reply, Stream, Query). -/
def Command.priorities (c : Command) (now : PerClass Nat) : Option (PerClass Nat) :=
  match priorityGiven (c.num 1), priorityGiven (c.num 2), priorityGiven (c.num 3) with
  | some r, some s, some q =>
    some { reply := r.getD now.reply, stream := s.getD now.stream, query := q.getD now.query }
  | _, _, _ => none

/-- A miss policy code: 0 PASS, 1 REFLECT, 2 REJECT, 3 KEEP (02 R38). -/
def policyGiven (v : Nat) : Given MissPolicy :=
  match v with
  | 0 => some (some .pass)
  | 1 => some (some .reflect)
  | 2 => some (some .reject)
  | 3 => some none
  | _ => none

/-- An on/off setting of ACCESS_SET: 0, 1, 2 keeps (10 R173). -/
def accessGiven (v : Nat) : Given Bool :=
  match v with
  | 0 => some (some false)
  | 1 => some (some true)
  | 2 => some none
  | _ => none

/-- A timer setting: 1–4,000 ms, 0 keeps (04 R78). -/
def timerGiven (v : Nat) : Given Nat :=
  if v = 0 then some none else if v ≤ Config.timerMax then some (some v) else none

/-! ### Reply data -/

/-- A number as one byte. -/
def byteOf (n : Nat) : Byte := BitVec.ofNat 8 n

/-- A flag as one byte. -/
def flagByte (x : Bool) : Byte := if x then 1 else 0

/-- A signed number as one byte in two's complement. -/
def signedByte (n : Int) : Byte := BitVec.ofInt 8 n

/-- A moment, most significant byte first. -/
def timeBytes (t : Time) : List Byte := [t.extractLsb' 24 8, t.extractLsb' 16 8, t.extractLsb' 8 8, t.extractLsb' 0 8]

/-- Port codes of the reply layouts: 0 Root, 1 Leaf. -/
def Port.code : Port → Byte
  | .root => 0
  | .leaf => 1

/-- Rate code as one byte (08 R140). -/
def Rate.byte (r : Rate) : Byte := r.code.zeroExtend 8

/-- Port state codes (08 Table 8-6). -/
def LinkState.code : LinkState → Byte
  | .down => 0
  | .training => 1
  | .config => 2
  | .active => 3
  | .parked => 4
  | .waking => 5

/-- Training cause codes (08 Table 8-4). -/
def Cause.code : Cause → Byte
  | .coldReset => 0
  | .reset => 1
  | .retrain => 2
  | .partnerTrain => 3
  | .replayLimit => 4
  | .creditOverrun => 5
  | .leafResetReceived => 6
  | .wakeTimeout => 7

/-- Slot state codes (02 Table 2-2). -/
def SlotState.code : SlotState → Byte
  | .free => 0
  | .staged => 1
  | .live => 2
  | .draining => 3

/-- Miss policy codes (02 R38). -/
def MissPolicy.code : MissPolicy → Byte
  | .pass => 0
  | .reflect => 1
  | .reject => 2

/-- Entry state codes (04 Table 4-4). -/
def EntryState.code : EntryState → BitVec 2
  | .free => 0
  | .waiting => 1
  | .returning => 2
  | .quarantine => 3

/-- Query position codes (04 Table 4-4). -/
def QueryPos.code : QueryPos → BitVec 2
  | .queued => 0
  | .sent => 1
  | .cleared => 2

/-- Query kind codes (04 Table 4-4). -/
def QueryKind.code : QueryKind → BitVec 2
  | .get => 0
  | .set => 1
  | .manage => 2

/-- Line state codes (09 Table 9-3). -/
def LineState.code : LineState → BitVec 2
  | .idle => 0
  | .pending => 1
  | .outstanding => 2

/-- Record kind codes (11 Table 11-1). -/
def RecordKind.code : RecordKind → Byte
  | .checkFail => 1
  | .replayLimit => 2
  | .linkLost => 3
  | .creditOverrun => 4
  | .malformed => 5
  | .accessDenied => 6
  | .noWindow => 7
  | .queryTimeout => 8
  | .lateReply => 9
  | .strayReply => 10
  | .lostReply => 11
  | .discarded => 12

/-- The flag byte 2 of a window record (02 Table 2-2). -/
def WindowRecord.flags (w : WindowRecord) : Byte :=
  ((0 : BitVec 2) ++ BitVec.ofBool w.translation.isSome ++ BitVec.ofBool w.specAllowed ++
    BitVec.ofBool w.earlyAck ++ BitVec.ofBool w.writeAllowed ++ BitVec.ofBool w.readAllowed ++
    BitVec.ofBool (w.direction == .up) : BitVec 8)

/-- WINDOW_READ reply data (02 Table 2-2). -/
def windowData (i : Fin 32) (s : Slot) : List Byte :=
  [byteOf i, s.state.code, s.window.flags, byteOf s.window.group, s.window.sizeExp, byteOf s.inflight] ++
    addrBytes s.window.base ++ addrBytes (s.window.translation.getD 0) ++ zeros 6

/-- GROUP_READ reply data (02 Table 2-5). -/
def groupData (g : Fin 8) (m : BitVec 32) : List Byte :=
  [byteOf g, m.extractLsb' 0 8, m.extractLsb' 8 8, m.extractLsb' 16 8, m.extractLsb' 24 8]

/-- Byte 2 of QUERY_READ's reply data (04 Table 4-4). -/
def Entry.stateByte (x : Entry) : Byte :=
  ((0 : BitVec 1) ++ BitVec.ofBool x.replySeen ++ x.kind.code ++ x.pos.code ++ x.state.code : BitVec 8)

/-- A presence bit above an index: used for window slot and next part (04 Table 4-4). -/
def present (bit : Nat) (v : Option Nat) : Byte :=
  match v with
  | none => 0
  | some n => byteOf (2 ^ bit + n)

/-- QUERY_READ reply data (04 Table 4-4). -/
def queryData (d : Dir) (e : Fin 64) (x : Entry) (now : Time) : List Byte :=
  [flagByte (d == .up), byteOf e, x.stateByte, x.reqUnit.zeroExtend 8, x.reqTag, present 5 (x.slot.map (·.val)),
    byteOf x.reqBlocks, byteOf x.delivered, present 2 (x.nextPart.map (·.val)),
    (x.owed.map fun s => s.code.zeroExtend 8).getD 0] ++
    timeBytes x.deadline ++ timeBytes x.quarEnd ++ timeBytes now

/-- The number of entries of a table in a state (04 R80). -/
def Bridge.countEntries (b : Bridge) (d : Dir) (s : EntryState) : Nat :=
  (List.finRange 64).countP fun e => (b.entry d e).state == s

/-- QUERY_SUMMARY reply data for one table (04 R80). -/
def summaryData (b : Bridge) (d : Dir) : List Byte :=
  [byteOf (b.countEntries d .free), byteOf (b.countEntries d .waiting), byteOf (b.countEntries d .returning),
    byteOf (b.countEntries d .quarantine)]

/-- TIMER_SET reply data: both settings, most significant byte first (04 R78). -/
def timerData (deadlineMs quarantineMs : Nat) : List Byte :=
  [byteOf (deadlineMs / 256), byteOf deadlineMs, byteOf (quarantineMs / 256), byteOf quarantineMs]

/-- A link setting in the order of LINK_SET's bytes 1–4 (08 R140). -/
def LinkSettings.data (x : LinkSettings) : List Byte :=
  [byteOf x.widthCap.lanes, x.rateCap.byte, signedByte x.trim, byteOf x.replayTimeout]

/-- LINK_SET reply data (08 R140). -/
def linkSetData (b : Bridge) : List Byte :=
  (b.port .root).record.inForce.data ++ (b.port .root).record.pendingSettings.data ++
    (b.port .leaf).record.inForce.data ++ (b.port .leaf).record.pendingSettings.data

/-- A width as a number of lanes, 0 when there is none yet (08 Table 8-1). -/
def widthByte (w : Option Width) : Byte := byteOf ((w.map Width.lanes).getD 0)

/-- The deferred link command of a port (08 Table 8-6, byte 25). -/
def Engine.linkCode (e : Engine) (p : Port) : Byte :=
  match e.deferred.find? (·.links p) with
  | none => 0
  | some d =>
    match d.op with
    | .retire _ => 0
    | .retrain _ running => if running then 2 else 1
    | .park _ _ => 3

/-- Six signed bytes of held credits (08 Table 8-6). -/
def heldData (c : PerClass SendAccount) : List Byte :=
  [signedByte c.stream.held.headers, signedByte c.stream.held.blocks, signedByte c.query.held.headers,
    signedByte c.query.held.blocks, signedByte c.reply.held.headers, signedByte c.reply.held.blocks]

/-- PORT_STATUS reply data (08 Table 8-6). -/
def portData (b : Bridge) (p : Port) : List Byte :=
  let s := b.port p
  let r := s.record
  [Port.code p, r.state.code, widthByte r.width, r.rate.byte, byteOf r.attempts, r.cause.code] ++ r.inForce.data ++
    r.pendingSettings.data ++ [byteOf s.send.buffer.length, r.partnerMax.byte] ++ heldData s.credit ++
    [byteOf (b.queue p .stream).length, byteOf (b.queue p .query).length, byteOf (b.queue p .reply).length,
      b.engine.linkCode p]

/-- LANE_READ reply data (08 R145). -/
def laneData (p : Port) (i : Fin 16) (l : LaneRec) : List Byte :=
  [Port.code p, byteOf i, (match l.result with | .notSwept => 0 | .passed => 1 | .failed => 2), flagByte l.inUse,
    byteOf l.first, byteOf l.last, byteOf l.centre, byteOf l.applied, l.rate.byte]

/-- A buffer plan in the order of BUFFER_PLAN_SET's bytes 1–6 (06 R104). -/
def planData (x : PerClass (Amount Nat)) : List Byte :=
  [byteOf x.stream.headers, byteOf x.stream.blocks, byteOf x.query.headers, byteOf x.query.blocks,
    byteOf x.reply.headers, byteOf x.reply.blocks]

/-- One class of a receive account in BUFFER_PLAN_SET's reply (06 R104). -/
def accountData (a : RxAccount) : List Byte :=
  [byteOf a.occupied.headers, byteOf a.occupied.blocks, signedByte a.outstanding.headers,
    signedByte a.outstanding.blocks, byteOf a.allowance.headers, byteOf a.allowance.blocks]

/-- The receive account of a port in BUFFER_PLAN_SET's reply (06 Table 6-2). -/
def accountsData (x : PerClass RxAccount) : List Byte :=
  accountData x.stream ++ accountData x.query ++ accountData x.reply

/-- BUFFER_PLAN_SET reply data (06 Table 6-2). -/
def bufferPlanData (b : Bridge) : List Byte :=
  let r := (b.port .root).ingress
  let l := (b.port .leaf).ingress
  planData r.activePlan ++ planData r.pendingPlan ++ planData l.activePlan ++ planData l.pendingPlan ++
    accountsData r.account ++ accountsData l.account

/-- Priorities in the order Reply, Stream, Query (05 R98). -/
def priorityData (x : PerClass Nat) : List Byte := [byteOf x.reply, byteOf x.stream, byteOf x.query]

/-- ARBITER_SET reply data (05 R98). -/
def arbiterData (b : Bridge) : List Byte :=
  let r := (b.port .root).egress
  let l := (b.port .leaf).egress
  priorityData r.start ++ priorityData l.start ++ priorityData r.current ++ priorityData l.current

/-- SIGNAL_READ reply data (09 Table 9-3). -/
def lineData (i : Fin 64) (l : Line) : List Byte :=
  [byteOf i,
    ((0 : BitVec 2) ++ l.state.code ++ BitVec.ofBool l.lastUnit.isSome ++ BitVec.ofBool l.level ++
      BitVec.ofBool l.masked ++ BitVec.ofBool l.enabled : BitVec 8),
    (l.lastUnit.getD 0).zeroExtend 8] ++ addrBytes l.target ++
    [l.payload.extractLsb' 0 8, l.payload.extractLsb' 8 8, l.payload.extractLsb' 16 8, l.payload.extractLsb' 24 8]

/-- A capture record as reply data, 20 bytes (11 Table 11-2). -/
def Record.data (r : Record) : List Byte :=
  [r.kind.code, Port.code r.port,
    ((0 : BitVec 2) ++ BitVec.ofBool r.count.isSome ++ BitVec.ofBool r.status.isSome ++
      BitVec.ofBool r.slot.isSome ++ BitVec.ofBool r.tag.isSome ++ BitVec.ofBool r.addr.isSome ++
      BitVec.ofBool r.src.isSome : BitVec 8),
    (r.src.getD 0).zeroExtend 8] ++ timeBytes r.stamp ++ addrBytes (r.addr.getD 0) ++
    [r.tag.getD 0, byteOf ((r.slot.map (·.val)).getD 0), (r.status.getD 0).zeroExtend 8, byteOf (r.count.getD 0)] ++
    zeros 2

/-- CAPTURE_READ reply data: the header of 11 Table 11-3 and up to 4 records, oldest first (11 R181). -/
def captureData (b : Bridge) : List Byte :=
  let shown := b.capture.take 4
  [byteOf b.capture.length, byteOf shown.length, flagByte b.overflowed, 0] ++ timeBytes b.timeBase ++
    shown.flatMap Record.data

/-- IDENTIFY reply data (10 R174). -/
def identifyData (b : Bridge) (c : Command) : List Byte :=
  [0x02, 0xB7, 0x24, 0x40, 1, b.unit.zeroExtend 8, (b.linkState .root).code, (b.linkState .leaf).code,
    flagByte b.engine.leafOpen, flagByte b.engine.resetForwarding, byteOf b.engine.queue.length,
    byteOf b.engine.deferred.length, Port.code c.port]

end Sys2Proof.Machine
end

