-- ==== Sys2Proof/Machine/Forwarding.lean ====
section
/-! DEFINITION. The Forwarding Engines (chapter 3), the reply judgement of the Query Tables (chapter 4), and the offering
of freed places to waiting pushers (05 R90). -/

namespace Sys2Proof.Machine

/-! ### Routes -/

/-- Where a packet considered by a Forwarding Engine goes (03 Table 3-1). -/
inductive Route where
  /-- one push without an entry: a PUT forwarded, or a packet reflected -/
  | single (x : Push)
  /-- forward a query through a Query entry; `k` already carries its outgoing address (03 R50) -/
  | entry (d : Dir) (k : Packet) (slot : Option (Fin 32))
  /-- the PUT and the DONE OK of an early acknowledge (03 R51) -/
  | earlyAck (put done : Push)
  /-- a DONE the part originates, with its capture record (03 R53) -/
  | answer (done : Push) (r : Option Record)
  /-- hand-over to the command queue (03 R55) -/
  | engine (c : Command)
  /-- hand-over to the Signal Table (03 R57) -/
  | signal (line : Fin 64) (level : Bool) (unit : UnitNo)
  /-- a good reply, restored and forwarded (04 R68) -/
  | restore (d : Dir) (e : Fin 64) (k : Packet)
  /-- a reply that reaches an entry and is discarded (04 R69, R70, R73, R75) -/
  | badReply (d : Dir) (e : Fin 64) (k : Packet)
  /-- a discarded packet with its record -/
  | discard (r : Record)
  /-- a malformed reply: its record, and the notice to the entry it names (03 R46) -/
  | notice (r : Record) (d : Dir) (e : Fin 64) (final : Bool)
  deriving DecidableEq, Repr

/-- The egress queues a route pushes into (03 Table 3-1). -/
def Route.uses : Route → List (Port × Cls)
  | .single x => [(x.port, x.cls)]
  | .entry d _ _ => [(d.farPort, .query)]
  | .earlyAck x y => [(x.port, x.cls), (y.port, y.cls)]
  | .answer x _ => [(x.port, x.cls)]
  | .restore d _ _ => [(d.requesterPort, .reply)]
  | .engine _ | .signal _ _ _ | .badReply _ _ _ | .discard _ | .notice _ _ _ _ => []

/-- Everything the route needs is present (03 R43, Table 3-1). -/
def Route.ready (r : Route) (b : Bridge) : Bool :=
  (r.uses.all fun q => b.hasPlace q.1 q.2) &&
    match r with
    | .entry d _ _ => (b.freeEntry? d).isSome
    | .engine _ => b.engine.queue.length < Config.commandPlaces
    | _ => true

/-! ### Records of the Forwarding Engine (03 Table 3-3) -/

/-- A record of a packet: its kind and port, with the packet's source unit and the optional fields named. -/
def packetRecord (kind : RecordKind) (p : Port) (k : Packet) (now : Time) (addr tag : Bool) (slot : Option (Fin 32))
    (status : Option (BitVec 4)) : Record :=
  { bareRecord kind p now with
    src := some k.src, addr := if addr then some k.addr else none, tag := if tag then some k.tag else none,
    slot := slot, status := status }

/-- The MALFORMED record of a packet (03 Table 3-3). -/
def malformedRecord (p : Port) (k : Packet) (now : Time) : Record :=
  match k.kind with
  | .get | .set => packetRecord .malformed p k now true true none (some Status.malformed.code)
  | .put => packetRecord .malformed p k now true false none none
  | .manage | .data | .done => packetRecord .malformed p k now false true none none
  | .signal | .none7 => packetRecord .malformed p k now false false none none

/-- The STRAY_REPLY record of a reply that reaches no entry (03 R59, Table 3-3). -/
def strayRecord (p : Port) (k : Packet) (now : Time) : Record :=
  packetRecord .strayReply p k now false true none (if k.kind == .done then some k.status else none)

/-! ### The route of a packet -/

/-- A query answered with a DONE the part originates, pushed at its ingress port (03 R53). -/
def answerWith (b : Bridge) (p : Port) (k : Packet) (status : Status) (r : Option Record) : Route :=
  .answer (Push.plain p (donePacket b.unit k.src k.tag status)) r

/-- The packet with a new address (01 Table 1-8). -/
def Packet.moved (k : Packet) (a : Addr) : Packet := { k with addr := a }

/-- A PUT on its way to the other port; toward a DOWN port it is discarded (03 R47, R48, R54). -/
def forwardPut (b : Bridge) (p : Port) (k : Packet) (a : Addr) : Route :=
  if b.isDown p.other then
    .discard { packetRecord .discarded p.other k b.timeBase true false none none with count := some 1 }
  else .single (Push.plain p.other (k.moved a))

/-- The route of a well-formed PUT (03 R47, R48, R54). -/
def routePut (b : Bridge) (p : Port) (k : Packet) : Route :=
  match b.lookup p.dir k.addr with
  | some i =>
    let w := (b.slot i).window
    if b.allowed w k then forwardPut b p k (w.translate k.addr)
    else .discard (packetRecord .accessDenied p k b.timeBase true false (some i) none)
  | none =>
    match b.miss.get p.dir with
    | .pass => forwardPut b p k k.addr
    | .reflect => .single (Push.plain p k)
    | .reject => .discard (packetRecord .noWindow p k b.timeBase true false none none)

/-- A query on its way to the other port through an entry; toward a DOWN port it is answered LINK_DOWN (03 R50, R54). -/
def forwardQuery (b : Bridge) (p : Port) (k : Packet) (a : Addr) (slot : Option (Fin 32)) : Route :=
  if b.isDown p.other then answerWith b p k .linkDown none else .entry p.dir (k.moved a) slot

/-- An early-acknowledged SET; toward a DOWN port it is answered LINK_DOWN (03 R51, R54). -/
def earlyAckRoute (b : Bridge) (p : Port) (k : Packet) (a : Addr) : Route :=
  if b.isDown p.other then answerWith b p k .linkDown none
  else .earlyAck (Push.plain p.other { k.moved a with kind := .put })
    (Push.plain p (donePacket b.unit k.src k.tag .ok))

/-- The route of a well-formed GET or SET (03 R49 to R52, R54). -/
def routeGetSet (b : Bridge) (p : Port) (k : Packet) : Route :=
  match b.lookup p.dir k.addr with
  | some i =>
    let w := (b.slot i).window
    if !b.allowed w k then
      answerWith b p k .denied
        (some (packetRecord .accessDenied p k b.timeBase true true (some i) (some Status.denied.code)))
    else if declined w k then answerWith b p k .declined none
    else if k.kind == .set && w.earlyAck then earlyAckRoute b p k (w.translate k.addr)
    else forwardQuery b p k (w.translate k.addr) (some i)
  | none =>
    match b.miss.get p.dir with
    | .pass => forwardQuery b p k k.addr none
    | .reflect => .single (Push.plain p k)
    | .reject =>
      answerWith b p k .noTarget
        (some (packetRecord .noWindow p k b.timeBase true true none (some Status.noTarget.code)))

/-- The command a MANAGE carries into the command queue (03 R55, 10 R163). -/
def commandOf (p : Port) (k : Packet) : Command :=
  { port := p, src := k.src, tag := k.tag, code := k.command, blocks := k.blocks.toNat, payload := k.payload }

/-- The route of a well-formed MANAGE (03 R55, R56). -/
def routeManage (b : Bridge) (p : Port) (k : Packet) : Route :=
  if k.dst != b.unit then forwardQuery b p k k.addr none
  else if p == .root || b.engine.leafOpen then .engine (commandOf p k)
  else answerWith b p k .denied
    (some (packetRecord .accessDenied p k b.timeBase false true none (some Status.denied.code)))

/-- The entry a reply taken at a port names: addressed to the bridge unit with a tag of 0–63 (03 R46, R58). -/
def namedEntry (b : Bridge) (k : Packet) : Option (Fin 64) :=
  if k.dst == b.unit then index? 64 k.tag.toNat else none

/-- The entry is WAITING with its query SENT, and the reply is good for it (04 R67). -/
def answersEntry (x : Entry) (k : Packet) : Bool := x.state == .waiting && x.pos == .sent && goodReply x k

/-- The route of a well-formed DATA or DONE (03 R58, R59). -/
def routeReply (b : Bridge) (p : Port) (k : Packet) : Route :=
  match namedEntry b k with
  | none => .discard (strayRecord p k b.timeBase)
  | some e => if answersEntry (b.entry p.replyTable e) k then .restore p.replyTable e k else .badReply p.replyTable e k

/-- The route of a malformed packet (03 R45, R46). -/
def routeMalformed (b : Bridge) (p : Port) (k : Packet) : Route :=
  match k.kind with
  | .get | .set => answerWith b p k .malformed (some (malformedRecord p k b.timeBase))
  | .data | .done =>
    match namedEntry b k with
    | none => .discard (malformedRecord p k b.timeBase)
    | some e => .notice (malformedRecord p k b.timeBase) p.replyTable e k.final
  | .put | .signal | .manage | .none7 => .discard (malformedRecord p k b.timeBase)

/-- The route of a packet, judged against the part's state at that moment (03 R43). -/
def routeOf (b : Bridge) (p : Port) (k : Packet) : Route :=
  if malformed p k then routeMalformed b p k
  else
    match k.kind with
    | .put => routePut b p k
    | .get | .set => routeGetSet b p k
    | .manage => routeManage b p k
    | .signal => .signal k.line k.topInfo k.src
    | .data | .done => routeReply b p k
    | .none7 => routeMalformed b p k

/-! ### Carrying a route out -/

/-- The entry a query is allocated (04 R64). -/
def Entry.allocated (k : Packet) (slot : Option (Fin 32)) (deadline : Time) : Entry :=
  { Entry.free with
    state := .waiting, reqUnit := k.src, reqTag := k.tag,
    kind := (match k.kind with | .set => .set | .manage => .manage | _ => .get),
    slot := slot, reqBlocks := if k.kind == .get then blocksOf k.length else 0,
    nextPart := if k.kind == .get then some 0 else none, deadline := deadline }

/-- A slot gains a reference (02 R30). -/
def claimSlot (slot : Option (Fin 32)) (b : Bridge) : Bridge :=
  match slot with
  | none => b
  | some i => b.setSlot i { b.slot i with inflight := (b.slot i).inflight + 1 }

/-- Allocate an entry for a query and push the query with the bridge unit as source and the entry index as tag
(03 R50, 04 R64, R65). -/
def allocate (d : Dir) (k : Packet) (slot : Option (Fin 32)) (b : Bridge) : Bridge :=
  match b.freeEntry? d with
  | none => b
  | some e =>
    let b := b.setEntry d e (Entry.allocated k slot (afterMs b.timeBase b.deadlineMs))
    let b := claimSlot slot b
    push { port := d.farPort, cls := .query, pkt := { k with src := b.unit, tag := BitVec.ofNat 8 e.val },
           mark := some { table := d, entry := e }, wakes := true } b

/-- A SIGNAL's level is taken (09 R150). -/
def takeLevel (i : Fin 64) (level : Bool) (unit : UnitNo) (b : Bridge) : Bridge :=
  if level then notifyIfDue i (b.setLine i { b.line i with level := true, lastUnit := some unit })
  else cancelNotification i (b.setLine i { b.line i with level := false })

/-- The reply with the requester's unit and tag restored (04 R65). -/
def restored (x : Entry) (k : Packet) : Packet := { k with dst := x.reqUnit, tag := x.reqTag }

/-- A good reply is restored and pushed, and the entry advances or goes FREE (04 R68). That all the push brings about
(its DISCARDED record at a DOWN port, the BUSY reply of a drain it makes fail) comes before the DONE OK of a retire
the freed entry ends, and that one's DISCARDED record, is the model's choice (log 31; 10 R169 and 11 R179: either
order). -/
def restoreReply (d : Dir) (e : Fin 64) (k : Packet) (b : Bridge) : Bridge :=
  let x := b.entry d e
  let b := push (Push.plain d.requesterPort (restored x k)) b
  if k.final then freeEntry d e b else b.setEntry d e (x.advance k)

/-- The record of a reply discarded at an entry: its tag is the entry index (04 Table 4-3). -/
def replyRecord (kind : RecordKind) (d : Dir) (e : Fin 64) (k : Packet) (now : Time) (slot : Option (Fin 32))
    (status : Option (BitVec 4)) : Record :=
  { bareRecord kind d.farPort now with
    src := some k.src, tag := some (BitVec.ofNat 8 e.val), slot := slot, status := status }

/-- The status a record of a discarded reply carries: that of a DONE (04 Table 4-3). -/
def doneStatus (k : Packet) : Option (BitVec 4) := if k.kind == .done then some k.status else none

/-- A reply that is not forwarded reaches its entry (04 R69, R70, R73, R75). Where the freed entry ends a drain, that
its DONE OK, with its DISCARDED record at a DOWN port, comes before LATE_REPLY and before the BUSY reply of a drain
that record's notification makes fail is the model's choice (log 31; 10 R169 and 11 R179: either order). -/
def dropReply (d : Dir) (e : Fin 64) (k : Packet) (b : Bridge) : Bridge :=
  let x := b.entry d e
  let now := b.timeBase
  if x.state == .free || x.pos != .sent then raise (replyRecord .strayReply d e k now none (doneStatus k)) b
  else
    match x.state with
    | .waiting => raise (replyRecord .malformed d e k now x.slot (some Status.failed.code)) (owe d e .failed b)
    | .returning =>
      raise (replyRecord .lateReply d e k now x.slot (doneStatus k))
        (b.setEntry d e { x with replySeen := x.replySeen || k.final })
    | .quarantine =>
      raise (replyRecord .lateReply d e k now x.slot (doneStatus k)) (if k.final then freeEntry d e b else b)
    | .free => b

/-- A malformed-reply notice reaches its entry (03 R46, 04 Table 4-2). -/
def takeNotice (d : Dir) (e : Fin 64) (final : Bool) (b : Bridge) : Bridge :=
  let x := b.entry d e
  if x.pos != .sent then b
  else
    match x.state with
    | .free => b
    | .waiting => owe d e .failed b
    | .returning => b.setEntry d e { x with replySeen := x.replySeen || final }
    | .quarantine => if final then freeEntry d e b else b

/-- Carry a route out: every push, hand-over and allocation, then the record (03 R42). That all a pushed DONE, or the
entry a malformed-reply notice frees, brings about (a DISCARDED record at a DOWN port, the reply of a drain it ends)
comes before the engine's own record and what that brings about is the model's choice (log 31; 10 R169 and 11 R179:
either order). -/
def Route.carryOut (r : Route) (b : Bridge) : Bridge :=
  match r with
  | .single x => push x b
  | .entry d k slot => allocate d k slot b
  | .earlyAck x y => pushBoth x y b
  | .answer x rec => raiseIf rec (push x b)
  | .engine c => b.onEngine fun e => { e with queue := e.queue ++ [c] }
  | .signal i level unit => takeLevel i level unit b
  | .restore d e k => restoreReply d e k b
  | .badReply d e k => dropReply d e k b
  | .discard rec => raise rec b
  | .notice rec d e final => raise rec (takeNotice d e final b)

/-! ### Taking a packet -/

/-- Remove the packet at a position of a pool; its cost moves from occupied to freed (03 R42, 06 R106). -/
def removePacket (p : Port) (c : Cls) (i : Nat) (k : Packet) (b : Bridge) : Bridge :=
  let b := b.setPool p c ((b.pool p c).eraseIdx i)
  b.onAccount p c fun a =>
    { a with occupied := a.occupied.zip (· - ·) k.cost, freed := a.freed.zip (· + ·) k.cost }

/-- Take the packet at a position of a pool when everything its route needs is present; otherwise it stays and nothing
happens (03 R42, R43). -/
def takeAt (p : Port) (c : Cls) (i : Nat) (b : Bridge) : Bridge :=
  match (b.pool p c)[i]? with
  | none => b
  | some k =>
    let r := routeOf b p k
    if r.ready b then removePacket p c i k (r.carryOut b) else b

/-- The head of a pool, if its route's needs are all present. -/
def headReady (b : Bridge) (p : Port) (c : Cls) : Bool :=
  match b.pool p c with
  | [] => false
  | k :: _ => (routeOf b p k).ready b

/-- A packet that can be a bypass candidate: kind code 4 and addressed to the bridge unit (03 R44). -/
def isCandidate (b : Bridge) (k : Packet) : Bool := k.kind == .manage && k.dst == b.unit

/-- The position of the bypass candidate: the oldest behind a Query pool head that cannot proceed (03 R44). -/
def candidate? (b : Bridge) (p : Port) : Option Nat :=
  match b.pool p .query with
  | [] => none
  | _ :: behind =>
    if headReady b p .query then none
    else (behind.findIdx? (isCandidate b)).map (· + 1)

/-! ### The offering of freed places (05 R90) -/

/-- A place a Forwarding Engine's pusher waits in: a pool position of a port. -/
structure PoolPos where
  port : Port
  cls : Cls
  index : Nat
  deriving DecidableEq, Repr

/-- The Query pool pushers of a port: the head before the bypass candidate (05 Table 5-2). -/
def queryPositions (b : Bridge) (p : Port) : List PoolPos :=
  { port := p, cls := .query, index := 0 } ::
    match candidate? b p with
    | none => []
    | some i => [{ port := p, cls := .query, index := i }]

/-- The Forwarding Engine pushers of a port's queues in admission order, ranks 4 and 5 (05 Table 5-2). -/
def enginePositions (b : Bridge) (p : Port) : List PoolPos :=
  [{ port := p.other, cls := .reply, index := 0 }, { port := p.other, cls := .stream, index := 0 }] ++
    queryPositions b p.other ++ [{ port := p, cls := .stream, index := 0 }] ++ queryPositions b p

/-- The route of the packet at a position. -/
def PoolPos.route (q : PoolPos) (b : Bridge) : Option Route :=
  ((b.pool q.port q.cls)[q.index]?).map (routeOf b q.port)

/-- The packet at the position pushes into the queue (p, c), and all its needs are present. -/
def PoolPos.canUse (q : PoolPos) (b : Bridge) (p : Port) (c : Cls) : Bool :=
  match q.route b with
  | none => false
  | some r => r.uses.contains (p, c) && r.ready b

/-- The Management Engine gives a place to its oldest waiting reply for the queue (10 R169); an immediate reply frees
the command queue head (10 R163). -/
def admitReply (p : Port) (b : Bridge) : Bridge :=
  match b.engine.waiting.find? (·.port == p) with
  | none => b
  | some r =>
    let b := b.onEngine fun e => { e with waiting := e.waiting.eraseP (·.port == p) }
    let b := if r.immediate then b.onEngine fun e => { e with queue := e.queue.tail } else b
    push (Push.reply p r.pkt) b

/-- A PENDING line's notification is formed and pushed, and the line goes OUTSTANDING (09 R153, R154). -/
def admitLine (i : Fin 64) (b : Bridge) : Bridge :=
  let l := b.line i
  push (Push.plain .root (notificationPut b.unit l)) (b.setLine i { l with state := .outstanding })

/-- The first waiting pusher of a queue in admission order whose needs are all present takes a place (05 R90,
Table 5-2); none when no waiting pusher can use one. -/
def admitFirst (p : Port) (c : Cls) (b : Bridge) : Option Bridge :=
  let rank1 := if c == .reply then (b.returning? p.dir).map fun e => pushOwed p.dir e b else none
  let rank2 := if c == .reply && b.engine.waiting.any (·.port == p) then some (admitReply p b) else none
  let rank3 := if c == .stream && p == .root then b.pendingLine?.map fun i => admitLine i b else none
  let rank45 := ((enginePositions b p).find? fun q => q.canUse b p c).map fun q => takeAt q.port q.cls q.index b
  (rank1 <|> rank2) <|> (rank3 <|> rank45)

/-- Offer up to `n` free places of a queue, one after another (05 R90). That all one admission brings about comes
before the next place is offered is the model's choice (log 31). Where a reset frees several places, a packet that comes
to the head of its pool as the packet before it is admitted never pushed into the full queue (R89), and the manual does
not say whether it is a waiting pusher of the places left; that it is, so that such heads are taken one after another in
the event of the reset, is the model's choice (log 10). -/
def offerPlaces (p : Port) (c : Cls) : Nat → Bridge → Bridge
  | 0, b => b
  | n + 1, b =>
    if b.hasRoom p c && !b.isDown p then
      match admitFirst p c b with
      | none => b
      | some b' => offerPlaces p c n b'
    else b

/-- A queue was full, so that pushers may wait for it (05 R89; log 10). -/
def wasFull (before : Bridge) (p : Port) (c : Cls) : Bool := !before.hasRoom p c

/-- Offer the places of a queue freed in this event, when pushers may have waited for it (05 R90). -/
def offerFreed (before : Bridge) (p : Port) (c : Cls) (b : Bridge) : Bridge :=
  if wasFull before p c then offerPlaces p c Config.egressPlaces b else b

/-- Offer the places of all three queues of a port freed in this event (05 R90, R101). Table 5-2 orders the pushers of a
place and not the queues: Reply, Stream, Query is the model's choice (log 31). -/
def offerAll (before : Bridge) (p : Port) (b : Bridge) : Bridge :=
  offerFreed before p .query (offerFreed before p .stream (offerFreed before p .reply b))

/-- The pusher at a position waited for a queue of the port: the queue was full and its route pushed into it. -/
def PoolPos.waitedFor (q : PoolPos) (before : Bridge) (p : Port) : Bool :=
  match q.route before with
  | none => false
  | some r => r.uses.any fun u => u.1 == p && wasFull before p u.2

/-- A pool of a Forwarding Engine in which pushers wait for a queue: whether the head does, and the position of the
bypass candidate where it does. -/
structure WaitingPool where
  port : Port
  cls : Cls
  head : Bool
  candidate : Option Nat
  deriving DecidableEq, Repr

/-- The pool with those of its pushers that waited for a port's queues (03 R44: a candidate in a Query pool alone). -/
def waitingPool (before : Bridge) (p q : Port) (c : Cls) : WaitingPool :=
  { port := q, cls := c, head := PoolPos.waitedFor ⟨q, c, 0⟩ before p,
    candidate := if c = .query then (candidate? before q).filter fun i => PoolPos.waitedFor ⟨q, c, i⟩ before p else none }

/-- The pools in which pushers waited for a port's queues (05 Table 5-1). -/
def waitingPools (before : Bridge) (p : Port) : List WaitingPool :=
  [waitingPool before p p.other .reply, waitingPool before p p.other .stream, waitingPool before p p.other .query,
    waitingPool before p p .stream, waitingPool before p p .query].filter fun w => w.head || w.candidate.isSome

/-- The pushers of a pool are judged afresh when the port they waited for goes DOWN, and each is taken when its new
route's needs are present (05 R99, 03 R43, R54): the head first, and the candidate when it is the head now or the head,
judged again, cannot proceed (03 R44). -/
def WaitingPool.judge (w : WaitingPool) (b : Bridge) : Bridge :=
  let leaves := w.head && headReady b w.port w.cls
  let b := if w.head then takeAt w.port w.cls 0 b else b
  match w.candidate with
  | none => b
  | some i =>
    let i := if leaves then i - 1 else i
    if i = 0 || candidate? b w.port == some i then takeAt w.port w.cls i b else b

end Sys2Proof.Machine
end

