-- ==== Sys2Proof/Machine/Training.lean ====
section
/-! DEFINITION. Trainings and attempts, the CONFIG exchange, entry to ACTIVE, and a port going DOWN (chapter 8, with 06
R111 and R112 and 07 R126 to R128). -/

namespace Sys2Proof.Machine

/-! ### Numbering (07 R118, R127, R128) -/

/-- How many of the oldest replay entries an ACK naming `n` removes; 0 when it names no entry (07 R118). -/
def SendSide.ackCount (s : SendSide) (n : Seq) : Nat :=
  match s.buffer with
  | [] => 0
  | f :: _ => if (n - f.seq).toNat < s.buffer.length then (n - f.seq).toNat + 1 else 0

/-- The send side after an ACK taken with the partner's CONFIG flit: the timer stays stopped (07 R118, R126; log 28). -/
def SendSide.ackedAtConfig (s : SendSide) (n : Seq) : SendSide :=
  let m := s.ackCount n
  if m = 0 then s else { s with buffer := s.buffer.drop m, replayCount := 0 }

/-- The packets of a replay buffer framed afresh with the numbers from `n` on (07 R127). -/
def reframe (n : Seq) : List Framed → List Framed
  | [] => []
  | f :: fs => frame n f.pkt :: reframe (n + 1) fs

/-- The send side renumbered from 0 (07 R127). -/
def SendSide.renumbered (s : SendSide) : SendSide :=
  { nextSeq := BitVec.ofNat 12 s.buffer.length, buffer := reframe 0 s.buffer, timerStart := none, replayCount := 0,
    replayPos := none }

/-- The receive side when the partner's numbers have restarted (07 R127). -/
def RecvSide.partnerRestarted (r : RecvSide) : RecvSide :=
  { r with expected := 0, nakOutstanding := false, unacked := 0, ackBound := none, delivered := false }

/-- A port is renumbered because its partner's numbers have restarted (07 R127, R128). -/
def renumber (p : Port) (b : Bridge) : Bridge :=
  (b.onSend p SendSide.renumbered).onRecv p RecvSide.partnerRestarted

/-- The sequence numbers of a port restart, and the restart flag goes into its CONFIG flits (07 R128). -/
def restartNumbers (p : Port) (b : Bridge) : Bridge :=
  ((b.onSend p fun _ => SendSide.restarted).onRecv p fun _ => RecvSide.restarted).onTraining p
    fun t => { t with restartFlag := true }

/-! ### Attempts (08 R131) -/

/-- What ends when a port leaves ACTIVE: a due ACK or NAK, a replay, the replay timer, and a LINK_PARK drain (07 R124,
R126; 08 R142). In a port that is not ACTIVE nothing of these stands. -/
def endTraffic (p : Port) (b : Bridge) : Bridge :=
  let b := b.onRecv p fun r => { r with ackDue := false, nakDue := false }
  let b := b.onSend p fun s => { s with timerStart := none, replayPos := none }
  failDrain p b

/-- The rate of the first attempt (08 Table 8-3). -/
def firstRate (cause : Cause) (carried cap partner link : Rate) : Rate :=
  match cause with
  | .coldReset | .reset => .r3_2
  | .retrain => Rate.min cap partner
  | .partnerTrain => Rate.min cap carried
  | .replayLimit | .creditOverrun | .leafResetReceived | .wakeTimeout => Rate.min cap link

/-- An attempt begins at a rate, with the TRAIN pattern on all 16 lanes (08 R131). The partner's flits kept by the
attempt before are dropped (log 14). -/
def beginAttempt (p : Port) (rate : Rate) (b : Bridge) : Bridge :=
  let b := b.onRecord p fun r => { r with state := .training, rate := rate, attemptStart := b.timeBase }
  let b := b.onTraining p fun t =>
    { t with usable := none, keptAck := none, keptConfig := none, sentAck := none, sentConfig := none }
  let b := b.onPort p fun s => { s with lanes := s.lanes.mapIdx fun _ l => { l with inUse := false } }
  b.emit p ⟨.flit (.train false rate), some .w16⟩

/-- The record a training begins with: pending settings in force, attempt count 0, cause (08 R131). -/
def PortRecord.begun (r : PortRecord) (cause : Cause) : PortRecord :=
  { r with inForce := r.pendingSettings, attempts := 0, cause := cause }

/-- A training begins (08 R131). `carried` is the rate of the partner's TRAIN, used by cause PARTNER_TRAIN alone. -/
def beginTraining (p : Port) (cause : Cause) (carried : Rate) (b : Bridge) : Bridge :=
  let b := endTraffic p b
  let b := b.onRecord p fun r => r.begun cause
  let b := b.onTraining p fun t => { t with planTaken := false }
  let r := (b.port p).record
  beginAttempt p (firstRate cause carried r.inForce.rateCap r.partnerMax r.rate) b

/-! ### Entry to ACTIVE (08 R135, R141) -/

/-- The deferred command is the LINK_RETRAIN of this port. -/
def Deferred.retrains (d : Deferred) (p : Port) : Bool :=
  match d.op with
  | .retrain q _ => q == p
  | _ => false

/-- The reply data of a LINK_RETRAIN (08 R141). -/
def retrainData (b : Bridge) (p : Port) : List Byte :=
  let r := (b.port p).record
  [Port.code p, widthByte r.width, r.rate.byte]

/-- The listed LINK_RETRAIN of a port, if any, is removed and answered (10 R171). -/
def answerRetrain (p : Port) (status : Status) (data : List Byte) (b : Bridge) : Bridge :=
  match b.engine.deferred.find? (·.retrains p) with
  | none => b
  | some d =>
    let b := b.onEngine fun e => { e with deferred := e.deferred.eraseP (·.retrains p) }
    deliver (d.reply b.unit status data) b

/-- The listed LINK_RETRAIN of a port is one whose training has begun. -/
def retrainRuns (b : Bridge) (p : Port) : Bool :=
  b.engine.deferred.any fun d =>
    match d.op with
    | .retrain q running => q == p && running
    | _ => false

/-- Mark the listed LINK_RETRAIN of a port as training. -/
def Deferred.started (p : Port) (d : Deferred) : Deferred :=
  match d.op with
  | .retrain q _ => if q = p then { d with op := .retrain q true } else d
  | _ => d

/-- What a listed LINK_RETRAIN does when its port enters ACTIVE: one whose training ran is answered, one that waited
begins its training (08 R141). -/
def settleRetrain (p : Port) (b : Bridge) : Bridge :=
  if retrainRuns b p then answerRetrain p .ok (retrainData b p) b
  else if b.engine.deferred.any (·.retrains p) then
    beginTraining p .retrain .r3_2 (b.onEngine fun e => { e with deferred := e.deferred.map (Deferred.started p) })
  else b

/-- The port is ACTIVE from now on; its CREDIT repetition runs from here (08 R130; log 21). -/
def becomeActive (p : Port) (b : Bridge) : Bridge :=
  (b.setLinkState p .active).onPort p fun s => { s with ingress := { s.ingress with lastCredit := b.timeBase } }

/-- The lanes below a width are marked in use (08 R135). -/
def markInUse (lanes : Vector LaneRec 16) (w : Width) : Vector LaneRec 16 :=
  lanes.mapIdx fun i l => { l with inUse := l.inUse || i < w.lanes }

/-- A resumption replay begins where the replay buffer holds packets (07 R126). -/
def SendSide.resumed (s : SendSide) : SendSide :=
  { s with timerStart := none, replayPos := if s.buffer.isEmpty then none else some 0 }

/-- A port enters ACTIVE from CONFIG with the agreed width (08 R135). -/
def enterActive (p : Port) (w : Width) (b : Bridge) : Bridge :=
  let b := becomeActive p b
  let b := b.onRecord p fun r => { r with width := some w, attempts := 0 }
  let b := b.onPort p fun s => { s with lanes := markInUse s.lanes w }
  let b := b.onTraining p fun t => { t with restartFlag := false }
  let b := b.onSend p SendSide.resumed
  settleRetrain p b

/-- A port enters ACTIVE from PARKED or WAKING, with no CONFIG exchange (08 R143). -/
def wakeToActive (p : Port) (b : Bridge) : Bridge := settleRetrain p (becomeActive p b)

/-! ### A port going DOWN (08 R137) -/

/-- The number of packets in a port's egress queues. -/
def Bridge.queued (b : Bridge) (p : Port) : Nat :=
  (b.queue p .stream).length + (b.queue p .query).length + (b.queue p .reply).length

/-- A port's egress queues are emptied and its current priorities set to its start priorities (05 R99, R101). -/
def flushEgress (p : Port) (b : Bridge) : Bridge :=
  b.onPort p fun s => { s with egress := { s.egress with queues := .all [], current := s.egress.start } }

/-- The DISCARDED record of a flush, where anything was removed (05 R99, R101). -/
def flushRecord (p : Port) (removed : Nat) (now : Time) : Option Record :=
  if removed = 0 then none else some { bareRecord .discarded p now with count := some removed }

/-- The far port of the entry's table goes DOWN (04 R82). -/
def farPortLost (d : Dir) (e : Fin 64) (b : Bridge) : Bridge :=
  let x := b.entry d e
  let x := if x.pos == .queued then { x with pos := .cleared } else x
  match x.state with
  | .free => b
  | .waiting => owe d e .linkDown (b.setEntry d e x)
  | .returning => b.setEntry d e x
  | .quarantine => if x.pos == .cleared then freeEntry d e (b.setEntry d e x) else b

/-- One of the things the blocks do in the event a port goes DOWN (08 R137, 05 R99). -/
inductive LossAct where
  /-- a record of the Link Unit or of the egress enters -/
  | record (r : Record)
  /-- an entry loses its far port -/
  | entryLost (d : Dir) (e : Fin 64)
  /-- a RETURNING entry's DONE is pushed to the DOWN port -/
  | donePushed (d : Dir) (e : Fin 64)
  /-- the port's LINK_RETRAIN is answered LINK_DOWN -/
  | retrainEnds
  /-- the engine's oldest waiting reply for the port is pushed -/
  | replyPushed
  /-- a PENDING line's notification is pushed to a DOWN Root -/
  | linePushed (i : Fin 64)
  /-- a Forwarding Engine pool's pushers that waited for the port are judged afresh -/
  | poolJudged (w : WaitingPool)
  deriving DecidableEq, Repr

/-- The acts of a port's loss, as the state before it gives them. -/
def lossActs (before : Bridge) (p : Port) : List LossAct :=
  .record (bareRecord .linkLost p before.timeBase) ::
    ((flushRecord p (before.queued p) before.timeBase).map LossAct.record).toList ++
    ((List.finRange 64).filter fun e => (before.entry p.replyTable e).state != .free).map
      (LossAct.entryLost p.replyTable) ++
    ((List.finRange 64).filter fun e => (before.entry p.dir e).state == .returning).map (LossAct.donePushed p.dir) ++
    (if before.engine.deferred.any (·.retrains p) then [.retrainEnds] else []) ++
    ((before.engine.waiting.filter fun r => r.port == p).map fun _ => LossAct.replyPushed) ++
    (if p = .root then ((List.finRange 64).filter fun i => (before.line i).state == .pending).map LossAct.linePushed
     else []) ++
    (waitingPools before p).map LossAct.poolJudged

/-- Carry out one act of a port's loss. Line 0 may have left PENDING meanwhile; its act is then done. -/
def LossAct.carryOut (p : Port) (a : LossAct) (b : Bridge) : Bridge :=
  match a with
  | .record r => raise r b
  | .entryLost d e => farPortLost d e b
  | .donePushed d e => pushOwed d e b
  | .retrainEnds => answerRetrain p .linkDown [] b
  | .replyPushed => admitReply p b
  | .linePushed i => if (b.line i).state == .pending then admitLine i b else b
  | .poolJudged w => w.judge b

/-- A port goes DOWN (08 R137, 05 R99). The manual fixes no order between the blocks' acts, nor between the pools
whose heads are judged afresh: the order is free (log 24). That each act is carried out with all it brings about
before the next is the model's choice (log 31). -/
def goDown (p : Port) (b : Bridge) : Bridge :=
  let before := b
  let acts := lossActs before p
  let b := restartNumbers p (flushEgress p (b.setLinkState p .down))
  let b := { b with freeCtr := b.freeCtr + acts.length }
  (freeOrder before.freeCtr acts).foldl (fun b a => a.carryOut p b) b

/-- An attempt fails (08 R136). -/
def failAttempt (p : Port) (b : Bridge) : Bridge :=
  let n := (b.port p).record.attempts + 1
  let b := b.onRecord p fun r => { r with attempts := n }
  if n < Config.attemptLimit then beginAttempt p .r3_2 b else goDown p b

/-! ### The CONFIG exchange (08 R134, 06 R111, R112) -/

/-- A receive account at the port's CONFIG flit, with the class's pool of the active plan (06 R111, steps 2 to 4). -/
def RxAccount.atConfig (a : RxAccount) (pool : Amount Nat) : RxAccount :=
  let initial : Amount Int := ⟨pool.headers - a.occupied.headers, pool.blocks - a.occupied.blocks⟩
  { occupied := a.occupied, outstanding := initial, freed := .both 0,
    allowance := ⟨(a.outstanding.headers + a.allowance.headers - initial.headers).toNat,
      (a.outstanding.blocks + a.allowance.blocks - initial.blocks).toNat⟩,
    returns := .both 0 }

/-- The Ingress Buffer at the port's CONFIG flit; `first` at the first of a training (06 R111). -/
def Ingress.atConfig (x : Ingress) (first : Bool) : Ingress :=
  let plan := if first then x.pendingPlan else x.activePlan
  { x with activePlan := plan, account := x.account.zip RxAccount.atConfig plan }

/-- The CONFIG flit of a port, from its state after R111 has acted (08 R134). -/
def configFlit (s : PortState) : ConfigFlit :=
  { maxWidth := s.training.usable.getD .w4, restart := s.training.restartFlag, maxRate := s.record.inForce.rateCap,
    credits := s.ingress.account.map fun a => a.outstanding.map signedByte }

/-- The ACK that precedes the CONFIG flit (06 R111). -/
def configAck (r : RecvSide) : Option Seq := if r.delivered then some (r.expected - 1) else none

/-- Send an ACK, where there is one, and a CONFIG flit, on the usable lanes (08 R134). -/
def emitConfig (p : Port) (ack : Option Seq) (c : ConfigFlit) (b : Bridge) : Bridge :=
  let b := match ack with
    | none => b
    | some n => b.emit p ⟨.flit (.ack n), (b.port p).training.usable⟩
  b.emit p ⟨.flit (.config c), (b.port p).training.usable⟩

/-- A port sends its ACK and first CONFIG flit of the attempt (06 R111, 08 R134). -/
def sendConfig (p : Port) (b : Bridge) : Bridge :=
  let ack := configAck (b.port p).recv
  let b := b.onRecv p fun r => if r.delivered then { r with unacked := 0, ackBound := none } else r
  let b := b.onPort p fun s => { s with ingress := s.ingress.atConfig (!s.training.planTaken) }
  let c := configFlit (b.port p)
  let b := b.onTraining p fun t =>
    { t with planTaken := true, sentAck := ack, sentConfig := some c, lastConfig := b.timeBase }
  emitConfig p ack c b

/-- The replay debt of a class: the cost of its packets in the replay buffer (06 R112). -/
def replayDebt (buffer : List Framed) (c : Cls) : Amount Nat :=
  (buffer.filter fun f => f.pkt.cls == c).foldl (fun a f => a.zip (· + ·) f.pkt.cost) (.both 0)

/-- The send account of a class, set afresh from the partner's CONFIG flit (06 R112). -/
def freshCredit (initial : Amount Byte) (debt : Amount Nat) : SendAccount :=
  { held := ⟨initial.headers.toInt - debt.headers, initial.blocks.toInt - debt.blocks⟩, seen := .both 0 }

/-- The send account, set afresh (06 R112). -/
def freshCredits (c : ConfigFlit) (buffer : List Framed) : PerClass SendAccount :=
  { stream := freshCredit c.credits.stream (replayDebt buffer .stream),
    query := freshCredit c.credits.query (replayDebt buffer .query),
    reply := freshCredit c.credits.reply (replayDebt buffer .reply) }

/-- The partner's CONFIG flit, with the kept ACK, acts on the port's numbering and send account (06 R112, 07 R126). -/
def absorbConfig (p : Port) (c : ConfigFlit) (b : Bridge) : Bridge :=
  let b := if c.restart then renumber p b else b
  let b := match (b.port p).training.keptAck with
    | none => b
    | some n => b.onSend p (·.ackedAtConfig n)
  let b := b.onPort p fun s => { s with credit := freshCredits c s.send.buffer }
  let b := b.onSend p fun s => { s with replayCount := 0 }
  let b := b.onRecv p fun r => { r with nakOutstanding := false }
  let b := b.onRecord p fun r => { r with partnerMax := c.maxRate }
  b.onTraining p fun t => { t with keptAck := none, keptConfig := none }

/-- The partner's first CONFIG flit of the attempt is taken (08 R134, R135). -/
def takeConfig (p : Port) (c : ConfigFlit) (b : Bridge) : Bridge :=
  let b := absorbConfig p c b
  let s := b.port p
  if (Rate.min s.record.inForce.rateCap c.maxRate).below s.record.rate then failAttempt p b
  else enterActive p (Width.min (s.training.usable.getD .w4) c.maxWidth) b

/-- A port goes to CONFIG: its ACK and CONFIG flit are sent, and a CONFIG flit kept from TRAINING is taken (08 R133,
R134). -/
def enterConfig (p : Port) (b : Bridge) : Bridge :=
  let b := sendConfig p (b.setLinkState p .config)
  match (b.port p).training.keptConfig with
  | none => b
  | some c => takeConfig p c b

end Sys2Proof.Machine
end

