-- ==== Sys2Proof/Machine/Resets.lean ====
section
/-! DEFINITION. COLD_RESET, RST_N_RELEASE, ROOT_RESET and RESET_FLIT_AT_LEAF. -/

namespace Sys2Proof.Machine

/-- Change the part and leave the queue of waiting commands. -/
def State.onBridge (s : State) (f : Bridge → Bridge) : State := { s with bridge := f s.bridge }

/-- An event of the part. While RST_N is low nothing but the release acts (08 R148). -/
def State.event (s : State) (f : Bridge → Bridge) : State := s.onBridge fun b => if b.rstLow then b else f b

/-! ### Cold reset -/

/-- A cold reset: every block takes its cold values, the straps are sampled, and RST_N is low (08 R148). The model's own
fields go on (log 23). -/
def coldResetOf (unitsel : UnitNo) (leafmgt : Bool) (b : Bridge) : Bridge :=
  { Bridge.cold unitsel leafmgt with
    freeCtr := b.freeCtr,
    ports := { root := { PortState.cold with out := b.ports.root.out },
               leaf := { PortState.cold with out := b.ports.leaf.out } } }

/-- COLD_RESET (08 R148, and the cold values of every chapter). -/
def execColdReset (unitsel : UnitNo) (leafmgt : Bool) (s : State) : Host.Outcome State Fault Refusal :=
  .next (s.onBridge (coldResetOf unitsel leafmgt))

/-- RST_N returns high and both cold trainings begin (08 R148). -/
def releaseReset (b : Bridge) : Bridge :=
  if b.rstLow then
    beginTraining .leaf .coldReset .r3_2 (beginTraining .root .coldReset .r3_2 { b with rstLow := false })
  else b

/-- RST_N_RELEASE (08 R148). -/
def execRstNRelease (s : State) : Host.Outcome State Fault Refusal := .next (s.onBridge releaseReset)

/-! ### Root reset -/

/-- A reset of one port: numbers, credit accounts, ingress pools and egress (08 R146, 03 R61, 06 R114, 05 R101,
07 R128). -/
def resetPort (p : Port) (b : Bridge) : Bridge :=
  let b := restartNumbers p (flushEgress p b)
  b.onPort p fun s =>
    { s with
      ingress := { s.ingress with pools := .all [], account := .all RxAccount.zero }, credit := .all SendAccount.zero }

/-- The Management Engine at a Root reset (10 R176 with reset forwarding off, R177 with it on). -/
def Engine.atReset (e : Engine) (forwarding : Bool) : Engine :=
  { e with
    queue := [], deferred := [],
    waiting := if forwarding then [] else e.waiting.filter fun r => r.port == .leaf && !r.immediate }

/-- A Downbound entry at a Root reset with reset forwarding off (04 R84). -/
def downEntryReset (e : Fin 64) (b : Bridge) : Bridge :=
  let x := b.entry .down e
  match x.state with
  | .waiting => quarantine .down e b
  | .returning => if x.replySeen || x.pos == .cleared then freeEntry .down e b else quarantine .down e b
  | .free | .quarantine => b

/-- An Upbound entry at a Root reset with reset forwarding off (04 R84). -/
def upEntryReset (e : Fin 64) (b : Bridge) : Bridge :=
  let x := { b.entry .up e with pos := QueryPos.cleared }
  match x.state with
  | .free => b
  | .waiting => owe .up e .linkDown (b.setEntry .up e x)
  | .returning => b.setEntry .up e x
  | .quarantine => freeEntry .up e b

/-- Both Query Tables at a Root reset (04 R84 with reset forwarding off, R85 with it on). -/
def resetTables (forwarding : Bool) (b : Bridge) : Bridge :=
  if forwarding then (b.forEntries (freeEntry .down)).forEntries (freeEntry .up)
  else (b.forEntries downEntryReset).forEntries upEntryReset

/-- A line record at a Root reset (09 R161): IDLE; with reset forwarding on, lines 1–63 are deasserted. -/
def Line.atReset (l : Line) (forwarding : Bool) (i : Nat) : Line :=
  if forwarding && i != 0 then { l with state := .idle, level := false, lastUnit := none } else { l with state := .idle }

/-- All line records at a Root reset (09 R161). -/
def resetLines (forwarding : Bool) (b : Bridge) : Bridge :=
  { b with lines := b.lines.mapIdx fun i l => l.atReset forwarding i }

/-- The flush records of the reset ports enter, in free order where there are two (05 R101, 11 R179). -/
def enterFlushRecords (rs : List Record) (b : Bridge) : Bridge :=
  (freeOrder b.freeCtr rs).foldl (fun b r => b.enterRecord r) { b with freeCtr := b.freeCtr + rs.length }

/-- The trainings of the reset ports; on Leaf the RESET flit goes first, on its 16 lanes (08 R146; log 7). -/
def resetTrainings (forwarding : Bool) (b : Bridge) : Bridge :=
  let b := beginTraining .root .reset .r3_2 b
  if forwarding then beginTraining .leaf .reset .r3_2 (b.emit .leaf ⟨.flit .reset, some .w16⟩) else b

/-- A Root reset, which with reset forwarding on is also a Leaf reset (08 R146). That the flush records enter before
any record the notifications and the offered places raise is the model's choice (log 31; 11 R179: either order). -/
def rootResetOf (b : Bridge) : Bridge :=
  let before := b
  let fwd := b.engine.resetForwarding
  let rs := (flushRecord .root (b.queued .root) b.timeBase).toList ++
    (if fwd then (flushRecord .leaf (b.queued .leaf) b.timeBase).toList else [])
  let b := resetPort .root b
  let b := if fwd then resetPort .leaf b else b
  let b := b.onEngine fun e => e.atReset fwd
  let b := resetTables fwd b
  let b := resetTrainings fwd b
  let b := enterFlushRecords rs b
  let b := (resetLines fwd b).forLines notifyIfDue
  offerAll before .root b

/-- ROOT_RESET: a RESET flit taken at Root (08 R146). A flit that is not an intact RESET is discarded (07 R116). -/
def execRootReset (f : RawFlit) (s : State) : Host.Outcome State Fault Refusal :=
  .next (s.event fun b => if readFlit f = some .reset then rootResetOf b else b)

/-! ### RESET taken at Leaf -/

/-- A RESET flit taken at Leaf: Leaf is renumbered and trains (08 R147, 07 R127). -/
def leafResetTaken (b : Bridge) : Bridge := beginTraining .leaf .leafResetReceived .r3_2 (renumber .leaf b)

/-- RESET_FLIT_AT_LEAF (08 R147). -/
def execResetFlitAtLeaf (f : RawFlit) (s : State) : Host.Outcome State Fault Refusal :=
  .next (s.event fun b => if readFlit f = some .reset then leafResetTaken b else b)

end Sys2Proof.Machine
end

