-- ==== Sys2Proof/Machine/Receive.lean ====
section
/-! DEFINITION. What a port does with the packets and flits it receives (08 Table 8-5, chapters 6 and 7). -/

namespace Sys2Proof.Machine

/-! ### Class packets (07 R123) -/

/-- A NAK becomes due, unless one is outstanding (07 R124). -/
def RecvSide.wantNak (r : RecvSide) : RecvSide := if r.nakOutstanding then r else { r with nakDue := true }

/-- The receive side after a delivery at a moment (07 R123, R125; log 12). -/
def RecvSide.delivers (r : RecvSide) (now : Time) : RecvSide :=
  { r with
    expected := r.expected + 1, nakOutstanding := false, delivered := true,
    unacked := min Config.ackCount (r.unacked + 1),
    ackBound := if r.unacked = 0 then some (after now Config.ackBound) else r.ackBound,
    ackDue := r.ackDue || Config.ackCount ≤ r.unacked + 1 }

/-- A packet's cost moves from outstanding to occupied (06 R105). -/
def RxAccount.take (a : RxAccount) (cost : Amount Nat) : RxAccount :=
  { a with
    occupied := a.occupied.zip (· + ·) cost,
    outstanding := a.outstanding.zip (fun x (n : Nat) => x - (n : Int)) cost }

/-- A packet is delivered into the pool of its class (06 R105, 07 R123). -/
def deliverPacket (p : Port) (k : Packet) (b : Bridge) : Bridge :=
  let b := b.setPool p k.cls (b.pool p k.cls ++ [k])
  let b := b.onAccount p k.cls (·.take k.cost)
  b.onRecv p (·.delivers b.timeBase)

/-- The CREDIT_OVERRUN record of a packet (06 R110). -/
def overrunRecord (p : Port) (k : Packet) (now : Time) : Record :=
  { bareRecord .creditOverrun p now with src := some k.src, tag := some k.tag }

/-- The expected packet: a credit overrun retrains the port, any other packet is delivered (07 R123, 06 R110). That
CREDIT_OVERRUN, with the BUSY reply of a Root drain its notification makes fail, comes before the BUSY reply of this
port's failing drain and its DISCARDED record is the model's choice (log 31; 10 R169 and 11 R179: either order). -/
def takeExpected (p : Port) (k : Packet) (b : Bridge) : Bridge :=
  if b.overrun p k then beginTraining p .creditOverrun .r3_2 (raise (overrunRecord p k b.timeBase) b)
  else deliverPacket p k b

/-- The receive side's judgement of a framed packet (07 R123). -/
def judgeFrame (p : Port) (f : RxFrame) (b : Bridge) : Bridge :=
  let r := (b.port p).recv
  if goodFrame f then
    let d := (f.seq - r.expected).toNat
    if d = 0 then takeExpected p (framePacket f) b
    else if d < 2048 then b.onRecv p RecvSide.wantNak
    else b.onRecv p fun r => { r with ackDue := r.ackDue || r.delivered }
  else raise (bareRecord .checkFail p b.timeBase) (b.onRecv p RecvSide.wantNak)

/-- PACKET_RECEIVED (07 R123). A packet framed outside ACTIVE is discarded (08 R138). -/
def execPacketReceived (p : Port) (f : RxFrame) (s : State) : Host.Outcome State Fault Refusal :=
  .next (s.event fun b => if b.isActive p then judgeFrame p f b else b)

/-! ### TRAIN and CONFIG -/

/-- The partner's TRAIN, with its marker and rate, by port state (08 R130, R133, R136). -/
def takeTrain (p : Port) (marker : Bool) (rate : Rate) (b : Bridge) : Bridge :=
  match b.linkState p with
  | .down | .active | .parked | .waking => beginTraining p .partnerTrain rate b
  | .training => if marker && (b.port p).training.usable.isSome then enterConfig p b else b
  | .config => if marker then b else failAttempt p b

/-- PARTNER_TRAIN_DETECTED (08 R130). -/
def execPartnerTrainDetected (p : Port) (f : RawFlit) (s : State) : Host.Outcome State Fault Refusal :=
  .next (s.event fun b =>
    match readFlit f with
    | some (.train marker rate) => takeTrain p marker rate b
    | _ => b)

/-- The first CONFIG flit of the attempt that arrives in TRAINING is kept (08 R134). -/
def keepConfig (p : Port) (c : ConfigFlit) (b : Bridge) : Bridge :=
  b.onTraining p fun t => { t with keptConfig := some (t.keptConfig.getD c) }

/-- The partner's CONFIG flit by port state (08 Table 8-5). -/
def meetConfig (p : Port) (c : ConfigFlit) (b : Bridge) : Bridge :=
  match b.linkState p with
  | .training =>
    let b := keepConfig p c b
    if (b.port p).training.usable.isSome then enterConfig p b else b
  | .config => takeConfig p c b
  | .down | .active | .parked | .waking => b

/-- CONFIG_RECEIVED (06 R112, 08 R134). -/
def execConfigReceived (p : Port) (f : RawFlit) (s : State) : Host.Outcome State Fault Refusal :=
  .next (s.event fun b =>
    match readFlit f with
    | some (.config c) => meetConfig p c b
    | _ => b)

/-! ### ACK, NAK, CREDIT -/

/-- The send side after an ACK taken in ACTIVE (07 R118, R121). -/
def SendSide.acked (s : SendSide) (n : Seq) (now : Time) : SendSide :=
  let m := s.ackCount n
  if m = 0 then s
  else
    let rest := s.buffer.drop m
    { s with
      buffer := rest, replayCount := 0,
      timerStart := if rest.isEmpty then none else if s.replayPos.isNone then some now else s.timerStart,
      replayPos := if rest.isEmpty then none else s.replayPos.map (· - m) }

/-- An ACK by port state: taken in ACTIVE, kept for CONFIG in TRAINING and CONFIG (08 Table 8-5; log 13). -/
def meetAck (p : Port) (n : Seq) (b : Bridge) : Bridge :=
  match b.linkState p with
  | .active => b.onSend p (·.acked n b.timeBase)
  | .training | .config =>
    b.onTraining p fun t => if t.keptConfig.isSome then t else { t with keptAck := some n }
  | .down | .parked | .waking => b

/-- ACK_RECEIVED (07 R118). -/
def execAckReceived (p : Port) (f : RawFlit) (s : State) : Host.Outcome State Fault Refusal :=
  .next (s.event fun b =>
    match readFlit f with
    | some (.ack n) => meetAck p n b
    | _ => b)

/-- A replay is triggered from the oldest entry: it begins, or at the limit the port retrains (07 R121, R122). That
REPLAY_LIMIT, with the BUSY reply of a Root drain its notification makes fail, comes before the BUSY reply of this
port's failing drain and its DISCARDED record is the model's choice (log 31; 10 R169 and 11 R179: either order). -/
def triggerReplay (p : Port) (b : Bridge) : Bridge :=
  if (b.port p).send.replayCount < Config.replayLimit then
    b.onSend p fun s => { s with replayCount := s.replayCount + 1, replayPos := some 0, timerStart := none }
  else beginTraining p .replayLimit .r3_2 (raise (bareRecord .replayLimit p b.timeBase) b)

/-- The distance of a NAK's number from the oldest entry, or from the next number when the buffer is empty (07 R119). -/
def SendSide.nakDistance (s : SendSide) (n : Seq) : Nat :=
  match s.buffer with
  | [] => (n - s.nextSeq).toNat
  | f :: _ => (n - f.seq).toNat

/-- A replay in progress ends; where the buffer is not empty the timer starts (07 R119, R120; log 16). -/
def SendSide.endReplay (s : SendSide) (now : Time) : SendSide :=
  if s.replayPos.isSome then
    { s with replayPos := none, timerStart := if s.buffer.isEmpty then none else some now }
  else s

/-- A NAK taken in ACTIVE (07 R119). -/
def takeNak (p : Port) (n : Seq) (b : Bridge) : Bridge :=
  let s := (b.port p).send
  let d := s.nakDistance n
  if d < s.buffer.length then triggerReplay p (b.onSend p fun s => { s with buffer := s.buffer.drop d, replayPos := none })
  else if d = s.buffer.length then
    b.onSend p fun s => { s with buffer := [], replayPos := none, timerStart := none }
  else b.onSend p (·.endReplay b.timeBase)

/-- NAK_RECEIVED (07 R119). A NAK outside ACTIVE is discarded. -/
def execNakReceived (p : Port) (f : RawFlit) (s : State) : Host.Outcome State Fault Refusal :=
  .next (s.event fun b =>
    match readFlit f with
    | some (.nak n) => if b.isActive p then takeNak p n b else b
    | _ => b)

/-- A send account after a CREDIT flit's totals: the held counts rise by the differences modulo 256 (06 R109). -/
def SendAccount.refilled (a : SendAccount) (totals : Amount Byte) : SendAccount :=
  { held := ⟨a.held.headers + (totals.headers - a.seen.headers).toNat,
      a.held.blocks + (totals.blocks - a.seen.blocks).toNat⟩,
    seen := totals }

/-- CREDIT_RECEIVED (06 R109). A CREDIT flit outside ACTIVE is discarded. -/
def execCreditReceived (p : Port) (f : RawFlit) (s : State) : Host.Outcome State Fault Refusal :=
  .next (s.event fun b =>
    match readFlit f with
    | some (.credit t) =>
      if b.isActive p then b.onPort p fun s => { s with credit := s.credit.zip SendAccount.refilled t } else b
    | _ => b)

/-! ### PARK, WAKE, IDLE -/

/-- A PARK taken in ACTIVE: the port parks when its queues and replay buffer are empty, and answers with a WAKE
otherwise (08 R130, R143). -/
def takePark (p : Port) (b : Bridge) : Bridge :=
  if b.drained p then endTraffic p (b.setLinkState p .parked) else b.emitInUse p (.flit .wake)

/-- PARK_RECEIVED (08 R130). A PARK outside ACTIVE is discarded. -/
def execParkReceived (p : Port) (f : RawFlit) (s : State) : Host.Outcome State Fault Refusal :=
  .next (s.event fun b => if readFlit f = some .park ∧ b.isActive p then takePark p b else b)

/-- The partner's WAKE by port state (08 R143). -/
def takeWake (p : Port) (b : Bridge) : Bridge :=
  match b.linkState p with
  | .parked => wakeToActive p (b.startWake p)
  | .waking => wakeToActive p b
  | .down | .training | .config | .active => b

/-- WAKE_RECEIVED (08 R143). -/
def execWakeReceived (p : Port) (f : RawFlit) (s : State) : Host.Outcome State Fault Refusal :=
  .next (s.event fun b => if readFlit f = some .wake then takeWake p b else b)

/-- IDLE_RECEIVED: no effect in ACTIVE, discarded elsewhere (08 Table 8-5). -/
def execIdleReceived (_p : Port) (_f : RawFlit) (s : State) : Host.Outcome State Fault Refusal := .next s

end Sys2Proof.Machine
end

