-- ==== Sys2Proof/Machine/Link.lean ====
section
/-! DEFINITION. The sweep, the bounds of the link, the end of a park drain, the replay timer and the repeats (chapters 7
and 8). A timed event acts once the time base has reached its moment (log 2). -/

namespace Sys2Proof.Machine

/-- The lane records a sweep writes (08 R132). -/
def sweptLanes (s : PortState) (passing : Vector (BitVec 64) 16) : Vector LaneRec 16 :=
  passing.mapIdx fun _ l => sweptLane s.record.rate s.record.inForce.trim l

/-- The sweep of an attempt ends (08 R132, R133). A CONFIG flit kept meanwhile takes the port to CONFIG (log 14). -/
def endSweep (p : Port) (passing : Vector (BitVec 64) 16) (b : Bridge) : Bridge :=
  let b := b.onPort p fun s => { s with lanes := sweptLanes s passing }
  let s := b.port p
  match usableWidth s.lanes s.record.inForce.widthCap with
  | none => failAttempt p b
  | some w =>
    let b := b.onTraining p fun t => { t with usable := some w }
    let b := b.emit p ⟨.flit (.train true s.record.rate), some .w16⟩
    if s.training.keptConfig.isSome then enterConfig p b else b

/-- SWEEP_ENDS (08 R133): once in each attempt. -/
def execSweepEnds (p : Port) (passing : Vector (BitVec 64) 16) (s : State) : Host.Outcome State Fault Refusal :=
  .next (s.event fun b =>
    if b.linkState p = .training ∧ (b.port p).training.usable = none then endSweep p passing b else b)

/-- ATTEMPT_BOUND_PASSES (08 R136). -/
def execAttemptBoundPasses (p : Port) (s : State) : Host.Outcome State Fault Refusal :=
  .next (s.event fun b =>
    if (b.linkState p = .training ∨ b.linkState p = .config) ∧
        reached b.timeBase (after (b.port p).record.attemptStart Config.attemptBound) then failAttempt p b
    else b)

/-- WAKE_BOUND_PASSES (08 R143). -/
def execWakeBoundPasses (p : Port) (s : State) : Host.Outcome State Fault Refusal :=
  .next (s.event fun b =>
    if b.linkState p = .waking ∧ reached b.timeBase (after (b.port p).training.wakeStart Config.wakeBound) then
      beginTraining p .wakeTimeout .r3_2 b
    else b)

/-- The bound of the port's LINK_PARK drain has been reached (08 R142). -/
def parkBoundReached (b : Bridge) (p : Port) : Bool :=
  b.engine.deferred.any fun d =>
    match d.op with
    | .park q bound => q == p && reached b.timeBase bound
    | _ => false

/-- PARK_DRAIN_BOUND_PASSES (08 R142): the drain fails with BUSY. -/
def execParkDrainBoundPasses (p : Port) (s : State) : Host.Outcome State Fault Refusal :=
  .next (s.event fun b => if parkBoundReached b p then failDrain p b else b)

/-- A port parks: its PARK flit is sent (08 R142; log 29). -/
def parkPort (p : Port) (b : Bridge) : Bridge :=
  let b := (b.setLinkState p .parked).emitInUse p (.flit .park)
  let b := b.onRecv p fun r => { r with ackDue := false, nakDue := false }
  b.onSend p fun s => { s with timerStart := none, replayPos := none }

/-- The port can park: ACTIVE, queues and replay buffer empty, no replay (08 R142). -/
def canPark (b : Bridge) (p : Port) : Bool := b.isActive p && b.drained p && (b.port p).send.replayPos.isNone

/-- A LINK_PARK drain completes: the port parks and the command is answered DONE OK. Its reply into the parked port's
own queue starts no wake (08 R142). -/
def completePark (p : Port) (b : Bridge) : Bridge :=
  match b.engine.deferred.find? (·.parks p) with
  | none => b
  | some d =>
    let b := b.onEngine fun e => { e with deferred := e.deferred.eraseP (·.parks p) }
    deliverWith push (d.reply b.unit .ok []) (d.port != p) (parkPort p b)

/-- PARK_DRAIN_COMPLETES (08 R142). -/
def execParkDrainCompletes (p : Port) (s : State) : Host.Outcome State Fault Refusal :=
  .next (s.event fun b => if canPark b p then completePark p b else b)

/-- The replay timer runs and the time base has reached its expiry (07 R120). -/
def replayTimerReached (b : Bridge) (p : Port) : Bool :=
  let s := (b.port p).send
  b.isActive p && !s.buffer.isEmpty && s.replayPos.isNone &&
    match s.timerStart with
    | none => false
    | some t => reached b.timeBase (after t (b.port p).record.inForce.replayTimeout)

/-- REPLAY_TIMER_EXPIRES (07 R120): a replay from the oldest entry is triggered. -/
def execReplayTimerExpires (p : Port) (s : State) : Host.Outcome State Fault Refusal :=
  .next (s.event fun b => if replayTimerReached b p then triggerReplay p b else b)

/-- The 2 µs bound of the first unacknowledged delivery has passed (07 R125). -/
def ackBoundReached (b : Bridge) (p : Port) : Bool :=
  b.isActive p &&
    match (b.port p).recv.ackBound with
    | none => false
    | some t => reached b.timeBase t

/-- ACK_BOUND_PASSES (07 R125): an ACK becomes due. -/
def execAckBoundPasses (p : Port) (s : State) : Host.Outcome State Fault Refusal :=
  .next (s.event fun b => if ackBoundReached b p then b.onRecv p fun r => { r with ackDue := true } else b)

/-! ### CREDIT flits and repeats -/

/-- A class's receive account at a CREDIT flit (06 R107). -/
def RxAccount.advertise (a : RxAccount) : RxAccount :=
  { a with
    returns := ⟨a.returns.headers + BitVec.ofNat 8 a.freed.headers, a.returns.blocks + BitVec.ofNat 8 a.freed.blocks⟩,
    outstanding := ⟨a.outstanding.headers + a.freed.headers, a.outstanding.blocks + a.freed.blocks⟩,
    freed := .both 0 }

/-- A CREDIT flit is sent (06 R107). -/
def sendCredit (p : Port) (b : Bridge) : Bridge :=
  let b := b.onPort p fun s =>
    { s with ingress := { s.ingress with account := s.ingress.account.map RxAccount.advertise, lastCredit := b.timeBase } }
  b.emitInUse p (.flit (.credit ((b.port p).ingress.account.map RxAccount.returns)))

/-- CREDIT_REPEAT_DUE (06 R107; log 21). -/
def execCreditRepeatDue (p : Port) (s : State) : Host.Outcome State Fault Refusal :=
  .next (s.event fun b =>
    if b.isActive p ∧ reached b.timeBase (after (b.port p).ingress.lastCredit Config.repeatInterval) then
      sendCredit p b
    else b)

/-- A repeat of the ACK and CONFIG flit, with the values of the first sending (08 R134). -/
def repeatConfig (p : Port) (b : Bridge) : Bridge :=
  match (b.port p).training.sentConfig with
  | none => b
  | some c =>
    let b := b.onTraining p fun t => { t with lastConfig := b.timeBase }
    emitConfig p (b.port p).training.sentAck c b

/-- CONFIG_REPEAT (08 R134). -/
def execConfigRepeat (p : Port) (s : State) : Host.Outcome State Fault Refusal :=
  .next (s.event fun b =>
    if b.linkState p = .config ∧ reached b.timeBase (after (b.port p).training.lastConfig Config.repeatInterval) then
      repeatConfig p b
    else b)

/-- A repeat of the WAKE flit (08 R143). -/
def repeatWake (p : Port) (b : Bridge) : Bridge :=
  (b.onTraining p fun t => { t with lastWake := b.timeBase }).emitInUse p (.flit .wake)

/-- WAKE_REPEAT (08 R143). -/
def execWakeRepeat (p : Port) (s : State) : Host.Outcome State Fault Refusal :=
  .next (s.event fun b =>
    if b.linkState p = .waking ∧ reached b.timeBase (after (b.port p).training.lastWake Config.repeatInterval) then
      repeatWake p b
    else b)

end Sys2Proof.Machine
end

