-- ==== Sys2Proof/Machine/Sending.lean ====
section
/-! DEFINITION. What an ACTIVE port sends: due ACK, NAK and CREDIT flits, replayed packets, and the packets the arbiter
picks (chapters 5 to 7). -/

namespace Sys2Proof.Machine

/-! ### Due flits -/

/-- NAK(e) is sent; it serves for a due ACK as well (07 R124). -/
def sendNak (p : Port) (b : Bridge) : Bridge :=
  let b := b.emitInUse p (.flit (.nak (b.port p).recv.expected))
  b.onRecv p fun r =>
    { r with nakOutstanding := true, unacked := 0, ackBound := none, nakDue := false, ackDue := false }

/-- ACK(e − 1) is sent (07 R125). -/
def sendAck (p : Port) (b : Bridge) : Bridge :=
  let b := b.emitInUse p (.flit (.ack ((b.port p).recv.expected - 1)))
  b.onRecv p fun r => { r with unacked := 0, ackBound := none, ackDue := false }

/-- The due NAK or ACK is sent (07 R124, R125). Where both are due as a packet begins, the manual says that a sent NAK
serves for both and not which goes first; that the NAK goes, alone, is the model's choice (log 11). -/
def sendAnswer (p : Port) (b : Bridge) : Bridge :=
  if (b.port p).recv.nakDue then sendNak p b else if (b.port p).recv.ackDue then sendAck p b else b

/-- The CREDIT flit is sent where freed credit is to be returned (06 R107). -/
def sendReturns (p : Port) (b : Bridge) : Bridge := if b.creditDue p then sendCredit p b else b

/-- The due flits go ahead of the next packet the port begins (06 R107, 07 R124, R125); whether a due NAK or ACK or a
due CREDIT flit goes first is left open (log 11). -/
def sendDue (p : Port) (b : Bridge) : Bridge :=
  let answers := (b.port p).recv.nakDue || (b.port p).recv.ackDue
  if answers && b.creditDue p then
    let b' := { b with freeCtr := b.freeCtr + 1 }
    if Config.pick b.freeCtr % 2 = 0 then sendReturns p (sendAnswer p b') else sendAnswer p (sendReturns p b')
  else sendReturns p (sendAnswer p b)

/-- ACK_SENT (07 R125): a due ACK goes when the port can send a flit. -/
def execAckSent (p : Port) (s : State) : Host.Outcome State Fault Refusal :=
  .next (s.event fun b => if b.isActive p ∧ (b.port p).recv.ackDue then sendAck p b else b)

/-- NAK_SENT (07 R124): a due NAK goes when the port can send a flit. -/
def execNakSent (p : Port) (s : State) : Host.Outcome State Fault Refusal :=
  .next (s.event fun b => if b.isActive p ∧ (b.port p).recv.nakDue then sendNak p b else b)

/-- CREDIT_FLIT_SENT (06 R107). -/
def execCreditFlitSent (p : Port) (s : State) : Host.Outcome State Fault Refusal :=
  .next (s.event fun b => if b.isActive p ∧ b.creditDue p then sendCredit p b else b)

/-! ### Packets -/

/-- A packet's credit is spent (06 R109). -/
def SendAccount.spend (a : SendAccount) (cost : Amount Nat) : SendAccount :=
  { a with held := a.held.zip (fun x (n : Nat) => x - (n : Int)) cost }

/-- The send side after the first transmission of a packet (07 R115, R117, R120). -/
def SendSide.transmits (s : SendSide) (k : Packet) (now : Time) : SendSide :=
  { s with
    nextSeq := s.nextSeq + 1, buffer := s.buffer ++ [frame s.nextSeq k],
    timerStart := if s.buffer.isEmpty then some now else s.timerStart }

/-- The first transmission of a packet of a class (05 R97). -/
def transmit (p : Port) (c : Cls) (k : Packet) (b : Bridge) : Bridge :=
  let f := frame (b.port p).send.nextSeq k
  let b := b.onPort p fun s =>
    { s with
      credit := s.credit.set c ((s.credit.get c).spend k.cost),
      send := s.send.transmits k b.timeBase }
  b.emitInUse p (.packet f)

/-- The Query Table named by a mark learns that its query has been transmitted: the position becomes SENT, and a
quarantine end is set afresh (04 R63, R74). -/
def queryTransmitted (m : Mark) (b : Bridge) : Bridge :=
  let x := b.entry m.table m.entry
  if x.state == .free || x.pos != .queued then b
  else
    b.setEntry m.table m.entry
      { x with
        pos := .sent,
        quarEnd := if x.state == .quarantine then afterMs b.timeBase b.quarantineMs else x.quarEnd }

/-- The winner's head packet leaves its queue and is transmitted; the place it frees is offered (05 R90, R96, R97). -/
def sendHead (p : Port) (c : Cls) (x : Queued) (rest : List Queued) (b : Bridge) : Bridge :=
  let before := b
  let b := sendDue p b
  let b := b.onPort p fun s => { s with egress := { s.egress with current := before.aged p c } }
  let b := transmit p c x.pkt (b.setQueue p c rest)
  let b := match x.mark with
    | none => b
    | some m => queryTransmitted m b
  offerFreed before p c b

/-- One decision of the arbiter, at a send opportunity with an eligible class (05 R93, R96). -/
def arbitrate (p : Port) (b : Bridge) : Bridge :=
  if b.sendOpportunity p then
    match b.winner p with
    | none => b
    | some c =>
      match b.queue p c with
      | [] => b
      | x :: rest => sendHead p c x rest b
  else b

/-- ARBITER_DECISION (05 R96). -/
def execArbiterDecision (p : Port) (s : State) : Host.Outcome State Fault Refusal :=
  .next (s.event (arbitrate p))

/-- The send side after the entry at the replay position has been resent (07 R121). -/
def SendSide.resent (s : SendSide) (i : Nat) (now : Time) : SendSide :=
  if i + 1 < s.buffer.length then { s with replayPos := some (i + 1) }
  else { s with replayPos := none, timerStart := if s.buffer.isEmpty then none else some now }

/-- The next entry of a replay is resent (07 R121). -/
def resend (p : Port) (b : Bridge) : Bridge :=
  match (b.port p).send.replayPos with
  | none => b
  | some i =>
    match (b.port p).send.buffer[i]? with
    | none => b
    | some f => ((sendDue p b).emitInUse p (.packet f)).onSend p (·.resent i b.timeBase)

/-- REPLAY_RESEND (07 R121). -/
def execReplayResend (p : Port) (s : State) : Host.Outcome State Fault Refusal :=
  .next (s.event fun b => if b.isActive p then resend p b else b)

end Sys2Proof.Machine
end

