-- ==== Sys2Proof/Machine/Taking.lean ====
section
/-! DEFINITION. The Forwarding Engine rows: taking the head of a pool, and the management bypass (chapter 3). A head whose
needs are not all present stays, and the row has no effect (03 R43). -/

namespace Sys2Proof.Machine

/-- Take the head of a pool when it is well formed and of one of the kinds of the row (03 R42, R43). -/
def takeHead (p : Port) (c : Cls) (kinds : List Kind) (b : Bridge) : Bridge :=
  match b.pool p c with
  | [] => b
  | k :: _ => if kinds.contains k.kind && !malformed p k then takeAt p c 0 b else b

/-- TAKE_PUT (03 R47, R48, R54). -/
def execTakePut (p : Port) (s : State) : Host.Outcome State Fault Refusal :=
  .next (s.event (takeHead p .stream [.put]))

/-- TAKE_GET_SET (03 R49 to R54). -/
def execTakeGetSet (p : Port) (s : State) : Host.Outcome State Fault Refusal :=
  .next (s.event (takeHead p .query [.get, .set]))

/-- TAKE_MANAGE (03 R55, R56). -/
def execTakeManage (p : Port) (s : State) : Host.Outcome State Fault Refusal :=
  .next (s.event (takeHead p .query [.manage]))

/-- MANAGEMENT_BYPASS (03 R44): the bypass candidate is taken when its needs are present. -/
def execManagementBypass (p : Port) (s : State) : Host.Outcome State Fault Refusal :=
  .next (s.event fun b =>
    match candidate? b p with
    | none => b
    | some i => takeAt p .query i b)

/-- TAKE_SIGNAL (03 R57, 09 R150): at Leaf, where SIGNAL packets are well formed. -/
def execTakeSignal (s : State) : Host.Outcome State Fault Refusal :=
  .next (s.event (takeHead .leaf .stream [.signal]))

/-- TAKE_REPLY (03 R58, R59). -/
def execTakeReply (p : Port) (s : State) : Host.Outcome State Fault Refusal :=
  .next (s.event (takeHead p .reply [.data, .done]))

/-- TAKE_MALFORMED (03 R45, R46). -/
def execTakeMalformed (p : Port) (c : Cls) (s : State) : Host.Outcome State Fault Refusal :=
  .next (s.event fun b =>
    match b.pool p c with
    | [] => b
    | k :: _ => if malformed p k then takeAt p c 0 b else b)

end Sys2Proof.Machine
end

