-- ==== Sys2Proof/Machine/Tables.lean ====
section
/-! DEFINITION. Deadlines and quarantine ends, and the admissions of the part's own waiting pushers (chapters 4, 9, 10). -/

namespace Sys2Proof.Machine

/-- The record of an entry's own timer (04 Table 4-3): far port, requester unit, entry index, window slot. -/
def timerRecord (kind : RecordKind) (d : Dir) (e : Fin 64) (x : Entry) (now : Time) (status : Option (BitVec 4)) :
    Record :=
  { bareRecord kind d.farPort now with
    src := some x.reqUnit, tag := some (BitVec.ofNat 8 e.val), slot := x.slot, status := status }

/-- The deadline of a WAITING entry passes (04 R71). -/
def passDeadline (d : Dir) (e : Fin 64) (b : Bridge) : Bridge :=
  raise (timerRecord .queryTimeout d e (b.entry d e) b.timeBase (some Status.timeout.code)) (owe d e .timeout b)

/-- DEADLINE_PASSES (04 R71). -/
def execDeadlinePasses (d : Dir) (e : Fin 64) (s : State) : Host.Outcome State Fault Refusal :=
  .next (s.event fun b =>
    if (b.entry d e).state = .waiting ∧ reached b.timeBase (b.entry d e).deadline then passDeadline d e b else b)

/-- The quarantine end of an entry passes, by query position (04 R74). Where the freed entry ends a drain, that its
DONE OK, with its DISCARDED record at a DOWN port, comes before LOST_REPLY and before the BUSY reply of a drain that
record's notification makes fail is the model's choice (log 31; 10 R169 and 11 R179: either order). -/
def passQuarantine (d : Dir) (e : Fin 64) (b : Bridge) : Bridge :=
  let x := b.entry d e
  match x.pos with
  | .sent => raise (timerRecord .lostReply d e x b.timeBase none) (freeEntry d e b)
  | .queued => b.setEntry d e { x with quarEnd := afterMs b.timeBase b.quarantineMs }
  | .cleared => freeEntry d e b

/-- QUARANTINE_END_PASSES (04 R74). -/
def execQuarantineEndPasses (d : Dir) (e : Fin 64) (s : State) : Host.Outcome State Fault Refusal :=
  .next (s.event fun b =>
    if (b.entry d e).state = .quarantine ∧ reached b.timeBase (b.entry d e).quarEnd then passQuarantine d e b else b)

/-- RETURNING_DONE_PUSHED (04 R72): the owed DONE is admitted when its queue has a place (log 9), the lowest entry first
(05 Table 5-2); toward a DOWN port every entry is admitted at once. -/
def execReturningDonePushed (d : Dir) (e : Fin 64) (s : State) : Host.Outcome State Fault Refusal :=
  .next (s.event fun b =>
    if (b.entry d e).state = .returning ∧ (b.isDown d.requesterPort ∨
        (b.hasRoom d.requesterPort .reply ∧ b.returning? d = some e)) then pushOwed d e b
    else b)

/-- NOTIFICATION_ADMITTED (09 R154): the lowest PENDING line takes a place of the Root Stream queue. -/
def execNotificationAdmitted (s : State) : Host.Outcome State Fault Refusal :=
  .next (s.event fun b =>
    match b.pendingLine? with
    | none => b
    | some i => if b.hasPlace .root .stream then admitLine i b else b)

/-- MANAGEMENT_REPLY_ADMITTED (10 R169): the oldest waiting reply for a Reply queue takes a place. -/
def execManagementReplyAdmitted (p : Port) (s : State) : Host.Outcome State Fault Refusal :=
  .next (s.event fun b => if b.hasPlace p .reply then admitReply p b else b)

end Sys2Proof.Machine
end

