-- ==== Sys2Proof/Machine/Management.lean ====
section
/-! DEFINITION. The Management Engine's execution of the head of its command queue, and the 27 commands (chapter 10 and
the owning chapters). -/

namespace Sys2Proof.Machine

/-! ### Execution (10 R164, R167) -/

/-- What the owning block makes of a command. -/
inductive Verdict where
  /-- an immediate reply, with the part after the effect; `wakes` is no for the reply of a LINK_PARK that parked the
  port the reply goes to (08 R142) -/
  | answer (status : Status) (data : List Byte) (wakes : Bool) (b : Bridge)
  /-- the command moves to the deferred list (10 R170) -/
  | defer (op : DeferredOp) (b : Bridge)
  deriving DecidableEq, Repr

/-- A refusal: a status, no data, nothing changed. -/
def refuse (status : Status) (b : Bridge) : Verdict := .answer status [] true b

/-- DONE OK with reply data. -/
def done (data : List Byte) (b : Bridge) : Verdict := .answer .ok data true b

/-- Rows 2 to 5 of 10 Table 10-3 for a command of the table that requires `req` operand bytes. -/
def judge (req : Nat) (effect : Command → Bridge → Verdict) (c : Command) (b : Bridge) : Verdict :=
  if c.countOutOfRange then refuse .range b
  else if c.code = 1 ∧ c.port = .leaf then refuse .denied b
  else if c.count < req then refuse .range b
  else effect c b

/-- The outcome of an executed head: its immediate reply is delivered, or it moves to the deferred list (10 R164,
R169, R170). The effect comes before the reply: that a notification it causes, a BUSY reply of a drain it makes fail,
and their DISCARDED records come first is the model's choice (log 31; 09 R156, 10 R169 and 11 R179 give no order). -/
def Verdict.settle (v : Verdict) (c : Command) : Bridge :=
  match v with
  | .answer status data wakes b =>
    deliverWith push
      { port := c.port, pkt := replyPacket b.unit c.src c.tag c.code status data, immediate := true } wakes b
  | .defer op b =>
    b.onEngine fun e =>
      { e with
        queue := e.queue.tail, deferred := e.deferred ++ [{ port := c.port, src := c.src, tag := c.tag, op := op }] }

/-- Execute the head of the command queue, when the engine is free and the head has the code of the row (10 R164). -/
def runHead (code : BitVec 6) (req : Nat) (effect : Command → Bridge → Verdict) (b : Bridge) : Bridge :=
  match b.engine.queue with
  | [] => b
  | c :: _ => if b.engine.free && c.code == code then (judge req effect c b).settle c else b

/-- The 27 command codes of 10 Table 10-4. -/
def knownCodes : List (BitVec 6) :=
  [0, 1, 8, 9, 10, 11, 12, 13, 16, 17, 24, 25, 26, 27, 28, 29, 30, 31, 32, 33, 34, 40, 41, 42, 43, 48, 49]

/-- UNKNOWN_COMMAND (10 R167 row 1): DONE MALFORMED. -/
def runUnknown (b : Bridge) : Bridge :=
  match b.engine.queue with
  | [] => b
  | c :: _ => if b.engine.free && !knownCodes.contains c.code then (refuse .malformed b).settle c else b

/-- UNKNOWN_COMMAND (10 R167). -/
def execUnknownCommand (s : State) : Host.Outcome State Fault Refusal := .next (s.event runUnknown)

/-! ### Identity and access (10 R173, R174) -/

/-- IDENTIFY's effect: none. -/
def identifyEffect (c : Command) (b : Bridge) : Verdict := done (identifyData b c) b

/-- IDENTIFY (10 R174). -/
def execIdentify (s : State) : Host.Outcome State Fault Refusal := .next (s.event (runHead 0 0 identifyEffect))

/-- ACCESS_SET's effect. -/
def accessSetEffect (c : Command) (b : Bridge) : Verdict :=
  match accessGiven (c.num 0), accessGiven (c.num 1) with
  | some leaf, some fwd =>
    let e := b.engine
    let e := { e with leafOpen := leaf.getD e.leafOpen, resetForwarding := fwd.getD e.resetForwarding }
    done [flagByte e.leafOpen, flagByte e.resetForwarding] { b with engine := e }
  | _, _ => refuse .range b

/-- ACCESS_SET (10 R173). -/
def execAccessSet (s : State) : Host.Outcome State Fault Refusal := .next (s.event (runHead 1 2 accessSetEffect))

/-! ### Link commands (08 R139 to R145) -/

/-- PORT_STATUS's effect: none. -/
def portStatusEffect (c : Command) (b : Bridge) : Verdict :=
  match port? (c.num 0) with
  | none => refuse .range b
  | some p => done (portData b p) b

/-- PORT_STATUS (08 R144). -/
def execPortStatus (s : State) : Host.Outcome State Fault Refusal := .next (s.event (runHead 8 1 portStatusEffect))

/-- Write pending settings at the selected ports; none where a byte is out of range (08 R140). -/
def writeSettings (c : Command) (ports : List Port) (b : Bridge) : Option Bridge :=
  match ports with
  | [] => some b
  | p :: ps =>
    match c.linkSettings (b.port p).record.pendingSettings with
    | none => none
    | some x => writeSettings c ps (b.onRecord p fun r => { r with pendingSettings := x })

/-- LINK_SET's effect. With selector 3 the other bytes are not judged. -/
def linkSetEffect (c : Command) (b : Bridge) : Verdict :=
  match (selected? (c.num 0)).bind fun ps => writeSettings c ps b with
  | none => refuse .range b
  | some b' => done (linkSetData b') b'

/-- LINK_SET (08 R140). -/
def execLinkSet (s : State) : Host.Outcome State Fault Refusal := .next (s.event (runHead 9 5 linkSetEffect))

/-- LINK_RETRAIN's effect by port state. -/
def retrainPort (p : Port) (b : Bridge) : Verdict :=
  if b.engine.linkListed p then refuse .state b
  else if !b.engine.deferredRoom then refuse .busy b
  else
    match b.linkState p with
    | .down | .active | .parked => .defer (.retrain p true) (beginTraining p .retrain .r3_2 b)
    | .training | .config | .waking => .defer (.retrain p false) b

/-- LINK_RETRAIN's effect. -/
def linkRetrainEffect (c : Command) (b : Bridge) : Verdict :=
  match port? (c.num 0) with
  | none => refuse .range b
  | some p => retrainPort p b

/-- LINK_RETRAIN (08 R141). -/
def execLinkRetrain (s : State) : Host.Outcome State Fault Refusal := .next (s.event (runHead 10 1 linkRetrainEffect))

/-- LINK_PARK's effect on port `p` for a command that entered at `from_`. -/
def parkCommand (p from_ : Port) (b : Bridge) : Verdict :=
  if !b.isActive p || b.engine.linkListed p then refuse .state b
  else if canPark b p then .answer .ok [] (from_ != p) (parkPort p b)
  else if b.engine.deferredRoom then .defer (.park p (after b.timeBase Config.parkBound)) b
  else refuse .busy b

/-- LINK_PARK's effect. -/
def linkParkEffect (c : Command) (b : Bridge) : Verdict :=
  match port? (c.num 0) with
  | none => refuse .range b
  | some p => parkCommand p c.port b

/-- LINK_PARK (08 R142). -/
def execLinkPark (s : State) : Host.Outcome State Fault Refusal := .next (s.event (runHead 11 1 linkParkEffect))

/-- LINK_WAKE's effect. -/
def linkWakeEffect (c : Command) (b : Bridge) : Verdict :=
  match port? (c.num 0) with
  | none => refuse .range b
  | some p => if b.linkState p = .parked then done [] (b.startWake p) else refuse .state b

/-- LINK_WAKE (08 R143). -/
def execLinkWake (s : State) : Host.Outcome State Fault Refusal := .next (s.event (runHead 12 1 linkWakeEffect))

/-- LANE_READ's effect: none. -/
def laneReadEffect (c : Command) (b : Bridge) : Verdict :=
  match port? (c.num 0), index? 16 (c.num 1) with
  | some p, some i => done (laneData p i (b.port p).lanes[i]) b
  | _, _ => refuse .range b

/-- LANE_READ (08 R145). -/
def execLaneRead (s : State) : Host.Outcome State Fault Refusal := .next (s.event (runHead 13 2 laneReadEffect))

/-! ### Buffer plan and arbiter (06 R104, 05 R98) -/

/-- Write a pending plan at the selected ports. -/
def writePlan (plan : PerClass (Amount Nat)) (ports : List Port) (b : Bridge) : Bridge :=
  ports.foldl (fun b p => b.onPort p fun s => { s with ingress := { s.ingress with pendingPlan := plan } }) b

/-- BUFFER_PLAN_SET's effect. With selector 3 the plan is not judged. -/
def bufferPlanSetEffect (c : Command) (b : Bridge) : Verdict :=
  match selected? (c.num 0) with
  | none => refuse .range b
  | some ps =>
    if !ps.isEmpty && !validPlan c.plan then refuse .range b
    else done (bufferPlanData (writePlan c.plan ps b)) (writePlan c.plan ps b)

/-- BUFFER_PLAN_SET (06 R104). -/
def execBufferPlanSet (s : State) : Host.Outcome State Fault Refusal :=
  .next (s.event (runHead 16 7 bufferPlanSetEffect))

/-- Set start priorities at a port, and its current priorities to them (05 R98). -/
def writePriorities (c : Command) (b : Bridge) (p : Port) : Bridge :=
  b.onPort p fun s =>
    let start := (c.priorities s.egress.start).getD s.egress.start
    { s with egress := { s.egress with start := start, current := start } }

/-- ARBITER_SET's effect. The priority bytes are judged whatever the selector. -/
def arbiterSetEffect (c : Command) (b : Bridge) : Verdict :=
  match selected? (c.num 0), c.priorities startPriorities with
  | some ps, some _ => done (arbiterData (ps.foldl (writePriorities c) b)) (ps.foldl (writePriorities c) b)
  | _, _ => refuse .range b

/-- ARBITER_SET (05 R98). -/
def execArbiterSet (s : State) : Host.Outcome State Fault Refusal := .next (s.event (runHead 17 4 arbiterSetEffect))

/-! ### Windows (02 R18 to R24) -/

/-- WINDOW_LOAD's effect. -/
def windowLoadEffect (c : Command) (b : Bridge) : Verdict :=
  match (b.slot c.loadSlot).state with
  | .free | .staged => done [] (b.setSlot c.loadSlot { state := .staged, window := c.window, inflight := 0 })
  | .live | .draining => refuse .state b

/-- WINDOW_LOAD (02 R18). -/
def execWindowLoad (s : State) : Host.Outcome State Fault Refusal := .next (s.event (runHead 24 24 windowLoadEffect))

/-- WINDOW_ACTIVATE's effect. -/
def windowActivateEffect (c : Command) (b : Bridge) : Verdict :=
  match c.slot? with
  | none => refuse .range b
  | some i =>
    let s := b.slot i
    match s.state with
    | .staged => if s.window.activates then done [] (b.setSlot i { s with state := .live }) else refuse .range b
    | .free | .live | .draining => refuse .state b

/-- WINDOW_ACTIVATE (02 R19). -/
def execWindowActivate (s : State) : Host.Outcome State Fault Refusal :=
  .next (s.event (runHead 25 1 windowActivateEffect))

/-- WINDOW_RETIRE's effect. -/
def windowRetireEffect (c : Command) (b : Bridge) : Verdict :=
  match c.slot? with
  | none => refuse .range b
  | some i =>
    let s := b.slot i
    match s.state with
    | .live =>
      if s.inflight = 0 then done [] (b.setSlot i Slot.free)
      else if b.engine.deferredRoom then .defer (.retire i) (b.setSlot i { s with state := .draining })
      else refuse .busy b
    | .free | .staged | .draining => refuse .state b

/-- WINDOW_RETIRE (02 R21). -/
def execWindowRetire (s : State) : Host.Outcome State Fault Refusal :=
  .next (s.event (runHead 26 1 windowRetireEffect))

/-- WINDOW_DISCARD's effect. -/
def windowDiscardEffect (c : Command) (b : Bridge) : Verdict :=
  match c.slot? with
  | none => refuse .range b
  | some i => if (b.slot i).state = .staged then done [] (b.setSlot i Slot.free) else refuse .state b

/-- WINDOW_DISCARD (02 R23). -/
def execWindowDiscard (s : State) : Host.Outcome State Fault Refusal :=
  .next (s.event (runHead 27 1 windowDiscardEffect))

/-- WINDOW_READ's effect: none. -/
def windowReadEffect (c : Command) (b : Bridge) : Verdict :=
  match c.slot? with
  | none => refuse .range b
  | some i => done (windowData i (b.slot i)) b

/-- WINDOW_READ (02 R24). -/
def execWindowRead (s : State) : Host.Outcome State Fault Refusal := .next (s.event (runHead 28 1 windowReadEffect))

/-! ### Groups and miss policies (02 R35, R36, R38) -/

/-- GROUP_SET's effect. -/
def groupSetEffect (c : Command) (b : Bridge) : Verdict :=
  match index? 8 (c.num 0) with
  | none => refuse .range b
  | some g => done [] { b with groups := b.groups.set g c.members }

/-- GROUP_SET (02 R35). -/
def execGroupSet (s : State) : Host.Outcome State Fault Refusal := .next (s.event (runHead 29 5 groupSetEffect))

/-- GROUP_READ's effect: none. -/
def groupReadEffect (c : Command) (b : Bridge) : Verdict :=
  match index? 8 (c.num 0) with
  | none => refuse .range b
  | some g => done (groupData g b.groups[g]) b

/-- GROUP_READ (02 R36). -/
def execGroupRead (s : State) : Host.Outcome State Fault Refusal := .next (s.event (runHead 30 1 groupReadEffect))

/-- MISS_POLICY_SET's effect. -/
def missPolicySetEffect (c : Command) (b : Bridge) : Verdict :=
  match policyGiven (c.num 0), policyGiven (c.num 1) with
  | some d, some u =>
    let m : PerDir MissPolicy := { down := d.getD b.miss.down, up := u.getD b.miss.up }
    done [m.down.code, m.up.code] { b with miss := m }
  | _, _ => refuse .range b

/-- MISS_POLICY_SET (02 R38). -/
def execMissPolicySet (s : State) : Host.Outcome State Fault Refusal :=
  .next (s.event (runHead 31 2 missPolicySetEffect))

/-! ### Query Tables (04 R78 to R80) -/

/-- TIMER_SET's effect. -/
def timerSetEffect (c : Command) (b : Bridge) : Verdict :=
  match timerGiven (c.num16 0), timerGiven (c.num16 2) with
  | some d, some q =>
    let b := { b with deadlineMs := d.getD b.deadlineMs, quarantineMs := q.getD b.quarantineMs }
    done (timerData b.deadlineMs b.quarantineMs) b
  | _, _ => refuse .range b

/-- TIMER_SET (04 R78). -/
def execTimerSet (s : State) : Host.Outcome State Fault Refusal := .next (s.event (runHead 32 4 timerSetEffect))

/-- The table a byte names: 0 Downbound, 1 Upbound (04 R79). -/
def table? (v : Nat) : Option Dir :=
  match v with
  | 0 => some .down
  | 1 => some .up
  | _ => none

/-- QUERY_READ's effect: none. -/
def queryReadEffect (c : Command) (b : Bridge) : Verdict :=
  match table? (c.num 0), index? 64 (c.num 1) with
  | some d, some e => done (queryData d e (b.entry d e) b.timeBase) b
  | _, _ => refuse .range b

/-- QUERY_READ (04 R79). -/
def execQueryRead (s : State) : Host.Outcome State Fault Refusal := .next (s.event (runHead 33 2 queryReadEffect))

/-- QUERY_SUMMARY's effect: none. The manual lets events at one table fall between the counts of the two; that both
tables are counted at one moment is the model's choice (log 32; 04 R80). -/
def querySummaryEffect (_c : Command) (b : Bridge) : Verdict := done (summaryData b .down ++ summaryData b .up) b

/-- QUERY_SUMMARY (04 R80). -/
def execQuerySummary (s : State) : Host.Outcome State Fault Refusal :=
  .next (s.event (runHead 34 0 querySummaryEffect))

/-! ### Signal lines (09 R156 to R160) -/

/-- SIGNAL_CONFIG's effect. -/
def signalConfigEffect (c : Command) (b : Bridge) : Verdict :=
  match index? 64 (c.num 0) with
  | none => refuse .range b
  | some i =>
    if (c.addr 2).toNat % 4 ≠ 0 then refuse .range b
    else
      let enabled := (c.byte 1).getLsbD 0
      let b := b.setLine i { b.line i with enabled := enabled, target := c.addr 2, payload := c.linePayload }
      done [] (if enabled then notifyIfDue i b else cancelNotification i b)

/-- SIGNAL_CONFIG (09 R159). -/
def execSignalConfig (s : State) : Host.Outcome State Fault Refusal :=
  .next (s.event (runHead 40 12 signalConfigEffect))

/-- SIGNAL_MASK's effect. -/
def signalMaskEffect (c : Command) (b : Bridge) : Verdict :=
  match index? 64 (c.num 0), c.num 1 with
  | some i, 0 => done [] (notifyIfDue i (b.setLine i { b.line i with masked := false }))
  | some i, 1 => done [] (cancelNotification i (b.setLine i { b.line i with masked := true }))
  | _, _ => refuse .range b

/-- SIGNAL_MASK (09 R158). -/
def execSignalMask (s : State) : Host.Outcome State Fault Refusal := .next (s.event (runHead 41 2 signalMaskEffect))

/-- SIGNAL_SERVICED's effect. -/
def signalServicedEffect (c : Command) (b : Bridge) : Verdict :=
  match index? 64 (c.num 0) with
  | none => refuse .range b
  | some i =>
    if (b.line i).state = .outstanding then done [] (notifyIfDue i (b.setLine i { b.line i with state := .idle }))
    else refuse .state b

/-- SIGNAL_SERVICED (09 R157). -/
def execSignalServiced (s : State) : Host.Outcome State Fault Refusal :=
  .next (s.event (runHead 42 1 signalServicedEffect))

/-- SIGNAL_READ's effect: none. -/
def signalReadEffect (c : Command) (b : Bridge) : Verdict :=
  match index? 64 (c.num 0) with
  | none => refuse .range b
  | some i => done (lineData i (b.line i)) b

/-- SIGNAL_READ (09 R160). -/
def execSignalRead (s : State) : Host.Outcome State Fault Refusal := .next (s.event (runHead 43 1 signalReadEffect))

/-! ### Capture (11 R181, R182) -/

/-- The capture queue has become empty: line 0 is deasserted, and a PENDING line 0 returns to IDLE (09 R151, 11 R183).
-/
def deassertAlert (b : Bridge) : Bridge := cancelNotification 0 (b.setLine 0 { b.line 0 with level := false })

/-- CAPTURE_READ's effect: the oldest record is removed. -/
def captureReadEffect (_c : Command) (b : Bridge) : Verdict :=
  let data := captureData b
  match b.capture with
  | [] => done data b
  | [_] => done data (deassertAlert { b with capture := [] })
  | _ :: rest => done data { b with capture := rest }

/-- CAPTURE_READ (11 R181). -/
def execCaptureRead (s : State) : Host.Outcome State Fault Refusal := .next (s.event (runHead 48 0 captureReadEffect))

/-- CAPTURE_CLEAR's effect: every record and the overflowed flag go. -/
def captureClearEffect (_c : Command) (b : Bridge) : Verdict :=
  let data := [byteOf b.capture.length, flagByte b.overflowed]
  let cleared := { b with capture := [], overflowed := false }
  done data (if b.capture.isEmpty then cleared else deassertAlert cleared)

/-- CAPTURE_CLEAR (11 R182). -/
def execCaptureClear (s : State) : Host.Outcome State Fault Refusal :=
  .next (s.event (runHead 49 0 captureClearEffect))

end Sys2Proof.Machine
end

