-- ==== Sys2Proof/Machine/Dispatch.lean ====
section
/-! DEFINITION. One arm per constructor of `Instr`: the command's meaning. -/

namespace Sys2Proof.Machine

/-- The effect of a command on everything but the queue. -/
def exec (i : Instr) (s : State) : Host.Outcome State Fault Refusal :=
  match i with
  | .coldReset unitsel leafmgt => Sys2Proof.Machine.execColdReset unitsel leafmgt s
  | .rstNRelease => Sys2Proof.Machine.execRstNRelease s
  | .rootReset f => Sys2Proof.Machine.execRootReset f s
  | .resetFlitAtLeaf f => Sys2Proof.Machine.execResetFlitAtLeaf f s
  | .packetReceived p f => Sys2Proof.Machine.execPacketReceived p f s
  | .partnerTrainDetected p f => Sys2Proof.Machine.execPartnerTrainDetected p f s
  | .configReceived p f => Sys2Proof.Machine.execConfigReceived p f s
  | .ackReceived p f => Sys2Proof.Machine.execAckReceived p f s
  | .nakReceived p f => Sys2Proof.Machine.execNakReceived p f s
  | .creditReceived p f => Sys2Proof.Machine.execCreditReceived p f s
  | .parkReceived p f => Sys2Proof.Machine.execParkReceived p f s
  | .wakeReceived p f => Sys2Proof.Machine.execWakeReceived p f s
  | .idleReceived p f => Sys2Proof.Machine.execIdleReceived p f s
  | .sweepEnds p passing => Sys2Proof.Machine.execSweepEnds p passing s
  | .attemptBoundPasses p => Sys2Proof.Machine.execAttemptBoundPasses p s
  | .wakeBoundPasses p => Sys2Proof.Machine.execWakeBoundPasses p s
  | .parkDrainBoundPasses p => Sys2Proof.Machine.execParkDrainBoundPasses p s
  | .parkDrainCompletes p => Sys2Proof.Machine.execParkDrainCompletes p s
  | .replayTimerExpires p => Sys2Proof.Machine.execReplayTimerExpires p s
  | .ackBoundPasses p => Sys2Proof.Machine.execAckBoundPasses p s
  | .creditRepeatDue p => Sys2Proof.Machine.execCreditRepeatDue p s
  | .configRepeat p => Sys2Proof.Machine.execConfigRepeat p s
  | .wakeRepeat p => Sys2Proof.Machine.execWakeRepeat p s
  | .arbiterDecision p => Sys2Proof.Machine.execArbiterDecision p s
  | .replayResend p => Sys2Proof.Machine.execReplayResend p s
  | .ackSent p => Sys2Proof.Machine.execAckSent p s
  | .nakSent p => Sys2Proof.Machine.execNakSent p s
  | .creditFlitSent p => Sys2Proof.Machine.execCreditFlitSent p s
  | .takePut p => Sys2Proof.Machine.execTakePut p s
  | .takeGetSet p => Sys2Proof.Machine.execTakeGetSet p s
  | .takeManage p => Sys2Proof.Machine.execTakeManage p s
  | .managementBypass p => Sys2Proof.Machine.execManagementBypass p s
  | .takeSignal => Sys2Proof.Machine.execTakeSignal s
  | .takeReply p => Sys2Proof.Machine.execTakeReply p s
  | .takeMalformed p c => Sys2Proof.Machine.execTakeMalformed p c s
  | .deadlinePasses d e => Sys2Proof.Machine.execDeadlinePasses d e s
  | .quarantineEndPasses d e => Sys2Proof.Machine.execQuarantineEndPasses d e s
  | .returningDonePushed d e => Sys2Proof.Machine.execReturningDonePushed d e s
  | .notificationAdmitted => Sys2Proof.Machine.execNotificationAdmitted s
  | .managementReplyAdmitted p => Sys2Proof.Machine.execManagementReplyAdmitted p s
  | .unknownCommand => Sys2Proof.Machine.execUnknownCommand s
  | .identify => Sys2Proof.Machine.execIdentify s
  | .accessSet => Sys2Proof.Machine.execAccessSet s
  | .portStatus => Sys2Proof.Machine.execPortStatus s
  | .linkSet => Sys2Proof.Machine.execLinkSet s
  | .linkRetrain => Sys2Proof.Machine.execLinkRetrain s
  | .linkPark => Sys2Proof.Machine.execLinkPark s
  | .linkWake => Sys2Proof.Machine.execLinkWake s
  | .laneRead => Sys2Proof.Machine.execLaneRead s
  | .bufferPlanSet => Sys2Proof.Machine.execBufferPlanSet s
  | .arbiterSet => Sys2Proof.Machine.execArbiterSet s
  | .windowLoad => Sys2Proof.Machine.execWindowLoad s
  | .windowActivate => Sys2Proof.Machine.execWindowActivate s
  | .windowRetire => Sys2Proof.Machine.execWindowRetire s
  | .windowDiscard => Sys2Proof.Machine.execWindowDiscard s
  | .windowRead => Sys2Proof.Machine.execWindowRead s
  | .groupSet => Sys2Proof.Machine.execGroupSet s
  | .groupRead => Sys2Proof.Machine.execGroupRead s
  | .missPolicySet => Sys2Proof.Machine.execMissPolicySet s
  | .timerSet => Sys2Proof.Machine.execTimerSet s
  | .queryRead => Sys2Proof.Machine.execQueryRead s
  | .querySummary => Sys2Proof.Machine.execQuerySummary s
  | .signalConfig => Sys2Proof.Machine.execSignalConfig s
  | .signalMask => Sys2Proof.Machine.execSignalMask s
  | .signalServiced => Sys2Proof.Machine.execSignalServiced s
  | .signalRead => Sys2Proof.Machine.execSignalRead s
  | .captureRead => Sys2Proof.Machine.execCaptureRead s
  | .captureClear => Sys2Proof.Machine.execCaptureClear s

end Sys2Proof.Machine
end

