-- ==== Sys2Proof/Safety.lean ====
section
/-! DEFINITION. What counts as a safe run, the invariants, and the words the statements share. -/

namespace Sys2Proof.Safety

open Sys2Proof.Machine

/-- A step that stops neither with a fault nor with a refusal. -/
def goesOn (s : State) : Prop := ∃ t, step s = .next t

/-- RST_N is high and the part runs (08 R148). -/
abbrev running (s : State) : Prop := s.bridge.rstLow = false

/-! ### Invariants -/

/-- The Error Capture Queue holds at most 16 records; line 0 is asserted exactly while it holds one, and has no last
asserting unit (11 R179, R183; 09 R151). -/
def CaptureInv (b : Bridge) : Prop :=
  b.capture.length ≤ Config.capturePlaces ∧ (b.line 0).level = !b.capture.isEmpty ∧ (b.line 0).lastUnit = none

/-- Every egress queue holds at most 32 packets (05 R87). -/
def QueueInv (b : Bridge) : Prop := ∀ p c, (b.queue p c).length ≤ Config.egressPlaces

/-- A send side whose replay buffer holds at most 32 packets, numbered consecutively up to the transmit next sequence,
each with the check value of its frame, and whose replay position names an entry (07 R115, R117, R121). -/
def replaySound (s : SendSide) : Prop :=
  s.buffer.length ≤ Config.replayEntries ∧
    (∀ (i : Nat) (h : i < s.buffer.length),
      s.buffer[i].seq = s.nextSeq - BitVec.ofNat 12 (s.buffer.length - i) ∧
        s.buffer[i].check = frameCheck s.buffer[i].seq s.buffer[i].pkt) ∧
    ∀ i, s.replayPos = some i → i < s.buffer.length

/-- Both replay buffers are sound, and a replay is in progress in ACTIVE alone (07 R121, R126). -/
def ReplayInv (b : Bridge) : Prop :=
  ∀ p, replaySound (b.port p).send ∧ (b.isActive p = false → (b.port p).send.replayPos = none)

/-- Every management reply that waits is a DONE (10 R166). -/
def RepliesAreDone (b : Bridge) : Prop := ∀ r ∈ b.engine.waiting, r.pkt.kind = .done

/-- The Management Engine holds at most 8 commands and 4 deferred commands, at most one immediate reply waits, and every
waiting reply is a DONE (10 R163, R166, R169, R170). -/
def EngineInv (b : Bridge) : Prop :=
  b.engine.queue.length ≤ Config.commandPlaces ∧ b.engine.deferred.length ≤ Config.deferredPlaces ∧
    (b.engine.waiting.filter (·.immediate)).length ≤ 1 ∧ RepliesAreDone b

/-- The cost of all packets of a pool: a header each, and their blocks (06 R105). -/
def poolCost (ks : List Packet) : Amount Nat := ⟨ks.length, (ks.map fun k => k.blocks.toNat).sum⟩

/-- The port has sent a CONFIG flit since its last training began, and no reset has cleared its account since. -/
def inEpoch (b : Bridge) (p : Port) : Prop :=
  b.linkState p = .config ∨ b.linkState p = .active ∨ b.linkState p = .parked ∨ b.linkState p = .waking

/-- Occupied plus outstanding plus freed is the pool of the active plan, in headers and in blocks (06 R108). -/
def sumsToPool (a : RxAccount) (pool : Amount Nat) : Prop :=
  (a.occupied.headers : Int) + a.outstanding.headers + a.freed.headers = pool.headers ∧
    (a.occupied.blocks : Int) + a.outstanding.blocks + a.freed.blocks = pool.blocks

/-- Every packet stands in the pool of its class (06 R102). -/
def PoolsByClass (b : Bridge) : Prop := ∀ p c, ∀ k ∈ b.pool p c, k.cls = c

/-- Every packet stands in the pool of its class; every receive account counts what its pool holds, and between two
trainings it sums to its pool (06 R102, R108). -/
def CreditInv (b : Bridge) : Prop :=
  PoolsByClass b ∧
    ∀ p c, (b.account p c).occupied = poolCost (b.pool p c) ∧
      (inEpoch b p → sumsToPool (b.account p c) ((b.port p).ingress.activePlan.get c))

/-- The number of entries of a table, in any state other than FREE, that name a window slot (02 R32). -/
def naming (b : Bridge) (d : Dir) (i : Fin 32) : Nat :=
  (List.finRange 64).countP fun e => (b.entry d e).state != .free && (b.entry d e).slot == some i

/-- A window's in-flight count is the number of Query entries that name it; a FREE or STAGED slot has none, a DRAINING
slot has some (02 R32, R22). A FREE entry holds nothing (04 R62). -/
def ReferenceInv (b : Bridge) : Prop :=
  (∀ d e, (b.entry d e).state = .free → b.entry d e = Entry.free) ∧
    ∀ i, (b.slot i).inflight = naming b .down i + naming b .up i ∧
      ((b.slot i).state = .free ∨ (b.slot i).state = .staged → (b.slot i).inflight = 0) ∧
      ((b.slot i).state = .draining → 0 < (b.slot i).inflight)

/-! ### Words of the statements -/

/-- The head of the command queue is `c`, with the given code and at least `req` operand bytes in range; the engine is
free and executes it (10 R164, R167 rows 1 to 4 not applying). -/
structure HeadReady (s : State) (code : BitVec 6) (req : Nat) (c : Command) : Prop where
  running : s.bridge.rstLow = false
  head : s.bridge.engine.queue.head? = some c
  free : s.bridge.engine.free = true
  code : c.code = code
  inRange : c.countOutOfRange = false
  enough : req ≤ c.count
  access : ¬(c.code = 1 ∧ c.port = .leaf)

/-- The reply of an executed head: the DONE of 10 R166 for the Reply queue of the command's port. -/
def headReply (b : Bridge) (c : Command) (status : Status) (data : List Byte) : MgmtReply :=
  { port := c.port, pkt := replyPacket b.unit c.src c.tag c.code status data, immediate := true }

/-- The state after a head is answered with a status and reply data, its effect having left the part as `b` (10 R164,
R169). -/
def answered (s : State) (c : Command) (status : Status) (data : List Byte) (b : Bridge) : State :=
  { s with bridge := deliverWith push (headReply b c status data) true b }

/-- The state after a head has moved to the deferred list, its effect having left the part as `b` (10 R170). -/
def deferredAs (s : State) (c : Command) (op : DeferredOp) (b : Bridge) : State :=
  { s with
    bridge :=
      { b with
        engine :=
          { b.engine with
            queue := b.engine.queue.tail,
            deferred := b.engine.deferred ++ [{ port := c.port, src := c.src, tag := c.tag, op := op }] } } }

/-- No LINK_PARK of the port is draining. -/
def noDrain (b : Bridge) (p : Port) : Prop := b.engine.deferred.find? (·.parks p) = none

/-- What a reset leaves at a port it resets, whatever the port held (08 R146, 06 R114, 07 R128). -/
def PortIsReset (before after : Bridge) (p : Port) : Prop :=
  let x := before.port p
  let y := after.port p
  y.record =
      { x.record with
        state := .training, rate := .r3_2, attempts := 0, cause := .reset, inForce := x.record.pendingSettings,
        attemptStart := before.timeBase } ∧
    (∀ c, y.ingress.pools.get c = [] ∧ y.ingress.account.get c = RxAccount.zero ∧ y.credit.get c = SendAccount.zero) ∧
    y.ingress.activePlan = x.ingress.activePlan ∧ y.ingress.pendingPlan = x.ingress.pendingPlan ∧
    y.send = { nextSeq := 0, buffer := [], timerStart := none, replayCount := 0, replayPos := none } ∧
    y.recv =
      { expected := 0, nakOutstanding := false, unacked := 0, ackBound := none, ackDue := false, nakDue := false,
        delivered := false } ∧
    y.training.restartFlag = true ∧ y.egress.start = x.egress.start ∧ y.egress.current = x.egress.start

/-- The Downbound entry a Root reset without forwarding leaves (04 R84). -/
def downAfterReset (b : Bridge) (x : Entry) : Entry :=
  let held := { x with
    state := EntryState.quarantine, owed := none, replySeen := false, quarEnd := afterMs b.timeBase b.quarantineMs }
  match x.state with
  | .free | .quarantine => x
  | .waiting => held
  | .returning => if x.replySeen || x.pos == .cleared then Entry.free else held

/-- The Upbound entry a Root reset without forwarding leaves (04 R84). -/
def upAfterReset (x : Entry) : Entry :=
  match x.state with
  | .free => x
  | .quarantine => Entry.free
  | .waiting => { x with state := .returning, pos := .cleared, owed := some .linkDown, replySeen := false }
  | .returning => { x with pos := .cleared }

/-! ### Words of the statements on resets and on a port's loss -/

/-- The DISCARDED record of a port whose egress queues are emptied; none where they held nothing (05 R99, R101). -/
def flushed (b : Bridge) (p : Port) : List Record :=
  let n := (b.queue p .stream).length + (b.queue p .query).length + (b.queue p .reply).length
  if n = 0 then [] else [{ bareRecord .discarded p b.timeBase with count := some n }]

/-- Exactly the records of `rs` were raised, in some order: those that found a place among the 16 entered as the newest,
and the overflowed flag is set where one did not (11 R179). -/
def RecordsEntered (before after : Bridge) (rs : List Record) : Prop :=
  ∃ order : List Record, order.Perm rs ∧
    after.capture = before.capture ++ order.take (16 - before.capture.length) ∧
    after.overflowed = (before.overflowed || decide (16 - before.capture.length < rs.length))

/-- The record was raised, perhaps among others: it entered behind the records held before, or it was dropped from a
full queue and the overflowed flag is set (11 R179). -/
def RecordRaised (before after : Bridge) (r : Record) : Prop :=
  ∃ new, after.capture = before.capture ++ new ∧ (r ∈ new ∨ (16 ≤ after.capture.length ∧ after.overflowed = true))

/-- The number of entries of both tables that record a window slot and meet a test. -/
def references (b : Bridge) (i : Fin 32) (test : Dir → Entry → Bool) : Nat :=
  ((List.finRange 64).countP fun e => (b.entry .down e).slot == some i && test .down (b.entry .down e)) +
    (List.finRange 64).countP fun e => (b.entry .up e).slot == some i && test .up (b.entry .up e)

/-- A slot after `n` of its references are released in one event: a DRAINING one whose count reaches 0 goes FREE, and
every other slot keeps its state and record proper (02 R31, R40). -/
def slotReleased (x : Slot) (n : Nat) : Slot :=
  if x.state = .draining ∧ 1 ≤ x.inflight ∧ x.inflight ≤ n then Slot.free else { x with inflight := x.inflight - n }

/-- A line at a Root reset, before it notifies: IDLE. With reset forwarding on, lines 1–63 are deasserted and forget
their last asserting unit. Line 0 is asserted where the reset raises a record (09 R161, 11 R183). -/
def lineAtReset (b : Bridge) (forwarding : Bool) (raises : Bool) (i : Fin 64) : Line :=
  let l := b.line i
  if i = 0 then { l with state := .idle, level := l.level || raises }
  else if forwarding then { l with state := .idle, level := false, lastUnit := none }
  else { l with state := .idle }

/-- The lines that notify at a Root reset, lowest first: those enabled, not masked and asserted (09 R161). -/
def notifyingAtReset (b : Bridge) (forwarding : Bool) (raises : Bool) : List (Fin 64) :=
  (List.finRange 64).filter fun i =>
    let l := lineAtReset b forwarding raises i
    l.enabled && !l.masked && l.level

/-- What a Root reset leaves of the lines and the Root egress queues: every queue is emptied, and of the lines that
notify the first 32 take its places in the Root Stream queue and are OUTSTANDING, the others PENDING (05 R101, 09
R161). -/
structure LinesNotified (before after : Bridge) (forwarding raises : Bool) : Prop where
  query : after.queue .root .query = []
  reply : after.queue .root .reply = []
  stream : after.queue .root .stream =
    ((notifyingAtReset before forwarding raises).take 32).mapIdx fun k i =>
      { pkt := notificationPut before.unit (before.line i), stamp := (before.port .root).egress.admissions + k,
        mark := none }
  lines : ∀ i, after.line i =
    { lineAtReset before forwarding raises i with
      state :=
        if i ∈ (notifyingAtReset before forwarding raises).take 32 then .outstanding
        else if i ∈ notifyingAtReset before forwarding raises then .pending
        else .idle }

/-- A formed reply was pushed in the event that left the part as `t`: it stands in its Reply queue, or waits in the
engine, or was discarded at its DOWN port with a DISCARDED record (10 R169, 05 R100). -/
def ReplyGiven (before t : Bridge) (r : MgmtReply) : Prop :=
  (∃ q ∈ t.queue r.port .reply, q.pkt = r.pkt) ∨ r ∈ t.engine.waiting ∨
    (t.isDown r.port = true ∧ RecordRaised before t
      { bareRecord .discarded r.port t.timeBase with
        src := some r.pkt.src, tag := some r.pkt.tag, status := some r.pkt.status, count := some 1 })

/-- A Query entry whose far port goes DOWN (04 R82). -/
def afterFarLoss (x : Entry) : Entry :=
  let pos := if x.pos = .queued then QueryPos.cleared else x.pos
  match x.state with
  | .free => x
  | .waiting => { x with state := .returning, pos := pos, owed := some .linkDown, replySeen := false }
  | .returning => { x with pos := pos }
  | .quarantine => if pos = .cleared then Entry.free else x

/-- A RETURNING entry whose requester port goes DOWN: its DONE is pushed at once (04 R72, R83). -/
def afterRequesterLoss (b : Bridge) (x : Entry) : Entry :=
  if x.replySeen = true ∨ x.pos = .cleared then Entry.free
  else
    { x with
      state := .quarantine, owed := none, replySeen := false,
      quarEnd := b.timeBase + BitVec.ofNat 32 (1000 * b.quarantineMs) }

/-- What the loss of a port leaves, whatever else the part held (08 R137, 05 R99, 04 R82, R83, 07 R128). -/
structure PortLost (b t : Bridge) (p : Port) : Prop where
  record : (t.port p).record = { (b.port p).record with state := .down, attempts := 3 }
  queues : ∀ c, t.queue p c = []
  admissions : (t.port p).egress.admissions = (b.port p).egress.admissions
  current : (t.port p).egress.current = (b.port p).egress.start
  send : (t.port p).send = { nextSeq := 0, buffer := [], timerStart := none, replayCount := 0, replayPos := none }
  recv : (t.port p).recv =
    { expected := 0, nakOutstanding := false, unacked := 0, ackBound := none, ackDue := false, nakDue := false,
      delivered := false }
  restartFlag : (t.port p).training.restartFlag = true
  credit : (t.port p).credit = (b.port p).credit
  lost : RecordRaised b t (bareRecord .linkLost p b.timeBase)
  flush : ∀ r ∈ flushed b p, RecordRaised b t r
  far : ∀ e, t.entry p.replyTable e = afterFarLoss (b.entry p.replyTable e)
  requester : ∀ e, (b.entry p.dir e).state = .returning →
    t.entry p.dir e = afterRequesterLoss b (b.entry p.dir e)
  kept : b.hasRoom p .reply = true → ∀ e, (b.entry p.dir e).state ≠ .returning →
    t.entry p.dir e = b.entry p.dir e

/-- One thing a packet's route needs (03 Table 3-1). -/
inductive Need where
  /-- a place in an egress queue -/
  | place (p : Port) (c : Cls)
  /-- a FREE entry of a Query Table -/
  | entry (d : Dir)
  /-- a place in the command queue -/
  | command
  deriving DecidableEq, Repr

/-- The need is present; a place in the queue of a DOWN port always is (03 R43, Table 3-1 with its note 1). -/
def Need.present (b : Bridge) : Need → Prop
  | .place p c => b.isDown p = true ∨ (b.queue p c).length < 32
  | .entry d => ∃ e, (b.entry d e).state = .free
  | .command => b.engine.queue.length < 8

/-- What a reply at a port needs: a place toward its requester when it answers the entry it names (03 R58, 04 R67). -/
def replyNeeds (b : Bridge) (p : Port) (k : Packet) : List Need :=
  if h : k.tag.toNat < 64 then
    let x := b.entry p.replyTable ⟨k.tag.toNat, h⟩
    if k.dst = b.unit ∧ x.state = .waiting ∧ x.pos = .sent ∧ goodReply x k = true then [Need.place p.other .reply] else []
  else []

/-- All that a packet's route needs, judged on the part as it stands (03 Table 3-1, R45 to R58). -/
def needs (b : Bridge) (p : Port) (k : Packet) : List Need :=
  let own := fun c => [Need.place p c]
  let put := if b.isDown p.other then [] else [Need.place p.other .stream]
  let query := if b.isDown p.other then own .reply else [Need.place p.other .query, Need.entry p.dir]
  let early := if b.isDown p.other then own .reply else [Need.place p.other .stream, Need.place p .reply]
  if malformed p k then (if k.kind = .get ∨ k.kind = .set then own .reply else [])
  else
    match k.kind with
    | .put =>
      match b.lookup p.dir k.addr, b.miss.get p.dir with
      | some i, _ => if b.member k.src (b.slot i).window.group && (b.slot i).window.writeAllowed then put else []
      | none, .pass => put
      | none, .reflect => own .stream
      | none, .reject => []
    | .get =>
      match b.lookup p.dir k.addr, b.miss.get p.dir with
      | some i, _ =>
        let w := (b.slot i).window
        if b.member k.src w.group && w.readAllowed && (!k.speculative || w.specAllowed) then query else own .reply
      | none, .pass => query
      | none, .reflect => own .query
      | none, .reject => own .reply
    | .set =>
      match b.lookup p.dir k.addr, b.miss.get p.dir with
      | some i, _ =>
        let w := (b.slot i).window
        if b.member k.src w.group && w.writeAllowed then (if w.earlyAck then early else query) else own .reply
      | none, .pass => query
      | none, .reflect => own .query
      | none, .reject => own .reply
    | .manage =>
      if k.dst ≠ b.unit then query
      else if p = .root ∨ b.engine.leafOpen = true then [Need.command] else own .reply
    | .data | .done => replyNeeds b p k
    | .signal | .none7 => []

/-- The packet of port `q` waits for a place in a queue of port `p` (05 R89, Table 5-1). -/
def waitsFor (b : Bridge) (q : Port) (k : Packet) (p : Port) : Prop :=
  b.isDown p = false ∧ ∃ c, Need.place p c ∈ needs b q k ∧ 32 ≤ (b.queue p c).length

/-- The number of entries of both tables that recorded a window slot and went FREE. -/
def released (b t : Bridge) (i : Fin 32) : Nat :=
  let gone := fun (d : Dir) (e : Fin 64) =>
    (b.entry d e).slot == some i && (b.entry d e).state != .free && (t.entry d e).state == .free
  (List.finRange 64).countP (gone .down) + (List.finRange 64).countP (gone .up)

/-- The DISCARDED record of one packet lost at a DOWN port (05 R100). -/
def lostPacket (b : Bridge) (p : Port) (src : UnitNo) (addr : Option Addr) (tag : Option Tag)
    (status : Option (BitVec 4)) : Record :=
  { bareRecord .discarded p b.timeBase with src := some src, addr := addr, tag := tag, status := status, count := some 1 }

/-- What a port's loss leaves of the Signal Table: at Root's, each PENDING line goes OUTSTANDING and its notification is
discarded; every other line is kept, but that line 0 is asserted, and notifies where it was IDLE and its condition
comes to hold (09 R151, R152, R155, R162). -/
structure LossOnLines (b t : Bridge) (p : Port) : Prop where
  kept : ∀ i, i ≠ 0 → p = .leaf ∨ (b.line i).state ≠ .pending → t.line i = b.line i
  pushed : ∀ i, i ≠ 0 → p = .root → (b.line i).state = .pending → t.line i = { b.line i with state := .outstanding }
  discarded : ∀ i, p = .root → (b.line i).state = .pending →
    RecordRaised b t (lostPacket b .root b.unit (some (b.line i).target) none none)
  zero : t.line 0 = { b.line 0 with level := true, state := (t.line 0).state }
  outstanding : (b.line 0).state = .outstanding → (t.line 0).state = .outstanding
  pending : (b.line 0).state = .pending → (t.line 0).state = if p = .root then .outstanding else .pending
  idle : (b.line 0).state = .idle → b.capture ≠ [] ∨ (b.line 0).enabled = false ∨ (b.line 0).masked = true →
    (t.line 0).state = .idle
  alertAtRoot : p = .root → (b.line 0).state = .idle → b.capture = [] → (b.line 0).enabled = true →
    (b.line 0).masked = false →
    (t.line 0).state = .outstanding ∧ RecordRaised b t (lostPacket b .root b.unit (some (b.line 0).target) none none)
  alertAtLeaf : p = .leaf → (b.line 0).state = .idle → b.capture = [] → (b.line 0).enabled = true →
    (b.line 0).masked = false →
    ((t.line 0).state = .outstanding ∧ (Need.place .root .stream).present b) ∨
      ((t.line 0).state = .pending ∧ ¬(Need.place .root .stream).present t)

/-- What a port's loss leaves of the Management Engine: the replies that waited for the port are pushed and discarded,
an immediate one freeing its command's place, the others wait on with those formed in the event behind them; of the
deferred commands only the port's LINK_RETRAIN, a failing drain and the retire of a drain that ends leave, and the
retire is answered DONE OK (05 R99, 10 R169, R171, R178; 02 R22). -/
structure LossOnEngine (b t : Bridge) (p : Port) : Prop where
  waiting : ∃ formed, t.engine.waiting = b.engine.waiting.filter (·.port != p) ++ formed ∧ ∀ r ∈ formed, r.port ≠ p
  discarded : ∀ r ∈ b.engine.waiting, r.port = p →
    RecordRaised b t (lostPacket b p r.pkt.src none (some r.pkt.tag) (some r.pkt.status))
  commands : t.engine.queue = b.engine.queue.drop (b.engine.waiting.filter fun r => r.port == p && r.immediate).length
  settings : t.engine.leafOpen = b.engine.leafOpen ∧ t.engine.resetForwarding = b.engine.resetForwarding
  deferred : t.engine.deferred.Sublist b.engine.deferred
  stays : ∀ d ∈ b.engine.deferred, d ∈ t.engine.deferred ∨
    (match d.op with
      | .retrain q _ => q = p
      | .park _ _ => True
      | .retire i => (b.slot i).state = .draining ∧ (t.slot i).state = .free)
  retire : ∀ (i : Fin 32) (d : Deferred), (b.slot i).state = .draining → (t.slot i).state = .free →
    b.engine.deferred.filter (·.retires i) = [d] → d.op = .retire i →
    t.engine.deferred.any (·.retires i) = false ∧
      ReplyGiven b t { port := d.port, pkt := replyPacket b.unit d.src d.tag 26 .ok [], immediate := false }

/-- What a port's loss leaves of the ingress pools: the heads and bypass candidates that waited for the port's queues
are judged afresh, the other pools stay. A head leaves when its new route's needs are present: a reply restored to the
port and one answered there are discarded, a forwarded PUT is discarded, a forwarded query is answered DONE LINK_DOWN.
A bypass candidate stays where its head, which did not wait for the port, can proceed because an entry of its table went
FREE in the event; a command of its own takes the head later (log 24). What leaves moves its cost from occupied to freed
(05 R99, 03 R43, R44, R54, 04 R83, 06 R106). -/
structure LossOnPools (b t : Bridge) (p : Port) : Prop where
  kept : ∀ q c, (∀ i k, i = 0 ∨ (c = .query ∧ candidate? b q = some i) → (b.pool q c)[i]? = some k → ¬waitsFor b q k p) →
    t.pool q c = b.pool q c
  judged : ∀ q c k rest, b.pool q c = k :: rest → waitsFor b q k p →
    (∃ i, t.pool q c = rest.eraseIdx i) ∨
      ((∃ i, t.pool q c = k :: rest.eraseIdx i) ∧ ∃ n ∈ needs t q k, ¬n.present t)
  bypass : ∀ i h rest k, b.pool p .query = h :: rest → candidate? b p = some i → rest[i - 1]? = some k → waitsFor b p k p →
    (∃ j, t.pool p .query = rest.eraseIdx j) ∨
      (t.pool p .query = h :: rest.eraseIdx (i - 1) ∧
        RecordRaised b t (lostPacket b p b.unit none (some k.tag) (some 3)) ∧
        RecordRaised b t
          { bareRecord .accessDenied p b.timeBase with src := some k.src, tag := some k.tag, status := some 3 }) ∨
      (t.pool p .query = h :: rest ∧ ¬waitsFor b p h p ∧ Need.entry p.dir ∈ needs b p h ∧
        ¬(Need.entry p.dir).present b ∧ ∀ n ∈ needs t p h, n.present t)
  account : ∀ q c, t.account q c =
    { b.account q c with
      occupied :=
        ⟨(b.account q c).occupied.headers - ((poolCost (b.pool q c)).headers - (poolCost (t.pool q c)).headers),
          (b.account q c).occupied.blocks - ((poolCost (b.pool q c)).blocks - (poolCost (t.pool q c)).blocks)⟩,
      freed :=
        ⟨(b.account q c).freed.headers + ((poolCost (b.pool q c)).headers - (poolCost (t.pool q c)).headers),
          (b.account q c).freed.blocks + ((poolCost (b.pool q c)).blocks - (poolCost (t.pool q c)).blocks)⟩ }
  own : ∀ c c' k rest, b.pool p c = k :: rest → waitsFor b p k p → needs b p k = [Need.place p c'] →
    ∃ i, t.pool p c = rest.eraseIdx i
  put : ∀ k rest, b.pool p.other .stream = k :: rest → waitsFor b p.other k p →
    t.pool p.other .stream = rest ∧ RecordRaised b t (lostPacket b p k.src (some k.addr) none none)
  query : ∀ k rest, b.pool p.other .query = k :: rest → waitsFor b p.other k p →
    ((∃ i, t.pool p.other .query = rest.eraseIdx i) ∧
        ((∃ x ∈ t.queue p.other .reply, x.pkt = donePacket b.unit k.src k.tag .linkDown) ∨
          (b.isDown p.other = true ∧ RecordRaised b t (lostPacket b p.other b.unit none (some k.tag) (some 5))))) ∨
      ((∃ i, t.pool p.other .query = k :: rest.eraseIdx i) ∧ ¬(Need.place p.other .reply).present t)
  reply : ∀ k rest (e : Fin 64), b.pool p.other .reply = k :: rest → waitsFor b p.other k p → k.tag.toNat = e.val →
    t.pool p.other .reply = rest ∧
      RecordRaised b t (lostPacket b p k.src none (some (b.entry p.dir e).reqTag)
        (if k.kind = .done then some k.status else none)) ∧
      t.entry p.dir e =
        if k.final then Entry.free
        else { b.entry p.dir e with
          delivered := (b.entry p.dir e).delivered + k.blocks.toNat,
          nextPart := if h : k.part.val + 1 < 4 then some ⟨k.part.val + 1, h⟩ else none }

/-- What a port's loss reaches beside the port: lines, the Management Engine, the pools, the DONEs that RETURNING
entries owed toward it, the entries of its own requesters, and the windows whose references the freed entries release.
Settings stay, and the other port keeps what it sends and receives, its queues gaining at most new packets (08 R137, 05
R99, 04 R82, R83, 02 R31, R40). -/
structure LossReaches (b t : Bridge) (p : Port) : Prop where
  lines : LossOnLines b t p
  engine : LossOnEngine b t p
  pools : LossOnPools b t p
  owed : ∀ e status, (b.entry p.dir e).state = .returning → (b.entry p.dir e).owed = some status →
    RecordRaised b t (lostPacket b p b.unit none (some (b.entry p.dir e).reqTag) (some status.code))
  requesters : ∀ e, (b.entry p.dir e).state ≠ .returning → t.entry p.dir e ≠ b.entry p.dir e →
    ∃ k rest, b.pool p.other .reply = k :: rest ∧ waitsFor b p.other k p ∧ k.tag.toNat = e.val
  slots : ∀ i, t.slot i = slotReleased (b.slot i) (released b t i)
  settings : t.groups = b.groups ∧ t.miss = b.miss ∧ t.deadlineMs = b.deadlineMs ∧ t.quarantineMs = b.quarantineMs ∧
    t.timeBase = b.timeBase ∧ t.unit = b.unit ∧ t.rstLow = b.rstLow
  sent : (t.port p).out = (b.port p).out ∧ (t.port p).lanes = (b.port p).lanes
  other : (t.port p.other).send = (b.port p.other).send ∧ (t.port p.other).recv = (b.port p.other).recv ∧
    (t.port p.other).credit = (b.port p.other).credit ∧ (t.port p.other).lanes = (b.port p.other).lanes
  otherState : (t.port p.other).record = (b.port p.other).record ∨
    (b.linkState p.other = .parked ∧ (t.port p.other).record = { (b.port p.other).record with state := .waking })
  otherQueues : ∀ c, ∃ new, t.queue p.other c = b.queue p.other c ++ new

/-- A row by which a port begins a packet acts as on the part after the rows of its due flits, which go ahead of the
packet: the NAK where one is due (alone, log 11) or else the ACK, and the CREDIT flit; where an answer and a CREDIT flit
are both due, in one of the two orders, which the free counter gives (06 R107, 07 R124, R125; log 11). -/
def DueFlitsGoFirst (p : Port) (row : Instr) (s : State) : Prop :=
  let r := (s.bridge.port p).recv
  let answers := r.nakDue = true ∨ r.ackDue = true
  let answer : Instr := if r.nakDue then .nakSent p else .ackSent p
  let counted := fun u : State => { u with bridge := { u.bridge with freeCtr := u.bridge.freeCtr + 1 } }
  (answers → s.bridge.creditDue p = false → ∃ t, exec answer s = .next t ∧ exec row s = exec row t) ∧
  (¬answers → s.bridge.creditDue p = true → ∃ t, exec (.creditFlitSent p) s = .next t ∧ exec row s = exec row t) ∧
  (answers → s.bridge.creditDue p = true →
    ∃ t u, ((exec answer s = .next t ∧ exec (.creditFlitSent p) t = .next u) ∨
        (exec (.creditFlitSent p) s = .next t ∧ exec answer t = .next u)) ∧
      exec row s = exec row (counted u))

/-- Nothing waits for the port and nobody else acts in the event of its loss. -/
structure LostQuietly (b : Bridge) (p : Port) : Prop where
  room : ∀ c, b.hasRoom p c = true
  owed : ∀ e, (b.entry p.dir e).state ≠ .returning
  waiting : b.engine.waiting = []
  deferred : b.engine.deferred = []
  lines : ∀ i, (b.line i).state ≠ .pending
  alert : (b.line 0).enabled = false

/-- What the third failed attempt of a training leaves: the port is lost, its listed LINK_RETRAIN is answered DONE
LINK_DOWN, and where nobody else acts in the event, LINK_LOST and the flush record alone are raised (08 R136, R137). -/
structure ThirdFailure (b t : Bridge) (p : Port) : Prop where
  lost : PortLost b t p
  retrain : ∀ (d : Deferred) (began : Bool), b.engine.deferred.filter (·.retrains p) = [d] → d.op = .retrain p began →
    t.engine.deferred.any (·.retrains p) = false ∧
      ReplyGiven b t { port := d.port, pkt := replyPacket b.unit d.src d.tag 10 .linkDown [], immediate := false }
  quiet : LostQuietly b p →
    RecordsEntered b t (bareRecord .linkLost p b.timeBase :: flushed b p) ∧ t.port p.other = b.port p.other ∧
      t.engine = b.engine

/-- A port's replay buffer once the partner's CONFIG flit is taken: numbered from 0 where its restart flag is set, and
without the packets a kept ACK names (06 R112, 07 R118, R127). -/
def bufferAtConfig (x : PortState) (c : ConfigFlit) : List Framed :=
  let numbered := if c.restart then x.send.buffer.mapIdx fun i f => frame (BitVec.ofNat 12 i) f.pkt else x.send.buffer
  let oldest : Seq := (numbered.head?.map Framed.seq).getD 0
  match x.training.keptAck with
  | none => numbered
  | some n => if (n - oldest).toNat < numbered.length then numbered.drop ((n - oldest).toNat + 1) else numbered

/-- A port's send account once the partner's CONFIG flit is taken: the initial credits less the replay debt (06 R112).
-/
def creditAtConfig (x : PortState) (c : ConfigFlit) : PerClass SendAccount :=
  let account := fun (initial : Amount Byte) (cls : Cls) =>
    let debt := replayDebt (bufferAtConfig x c) cls
    ({ held := ⟨initial.headers.toInt - debt.headers, initial.blocks.toInt - debt.blocks⟩,
       seen := ⟨0, 0⟩ } : SendAccount)
  ⟨account c.credits.stream .stream, account c.credits.query .query, account c.credits.reply .reply⟩

/-- Up to `n` free places of a queue are offered one after another, each to the first waiting pusher that can use it,
until the queue is full or no waiting pusher can use a place (05 R90). That a packet which comes to the head of its pool
in the offering is offered the places left is the model's choice (log 10). -/
inductive PlacesOffered (p : Port) (c : Cls) : Nat → Bridge → Bridge → Prop where
  /-- the last of the places has been offered -/
  | spent (b : Bridge) : PlacesOffered p c 0 b b
  /-- no place is free, or nobody can use one -/
  | done (n : Nat) (b : Bridge) (h : b.hasRoom p c = false ∨ b.isDown p = true ∨ admitFirst p c b = none) :
      PlacesOffered p c n b b
  /-- the first waiting pusher takes a place -/
  | taken (n : Nat) (b b' t : Bridge) (room : b.hasRoom p c = true) (up : b.isDown p = false)
      (first : admitFirst p c b = some b') (rest : PlacesOffered p c n b' t) : PlacesOffered p c (n + 1) b t

/-- A queue emptied in the event is offered its 32 places where it was full before, so that pushers may have waited for
it (05 R90, R101; log 10). -/
def QueueOffered (before : Bridge) (p : Port) (c : Cls) (b t : Bridge) : Prop :=
  if before.hasRoom p c = true then t = b else PlacesOffered p c 32 b t

/-- The emptied queues of a port are offered, Reply before Stream before Query (the order of the queues is the model's,
log 31). -/
def QueuesOffered (before : Bridge) (p : Port) (b t : Bridge) : Prop :=
  ∃ b1 b2, QueueOffered before p .reply b b1 ∧ QueueOffered before p .stream b1 b2 ∧ QueueOffered before p .query b2 t

end Sys2Proof.Safety
end

