-- ==== Sys2Proof/Certificates/Slice0/Obligations.lean ====
section
/-! DEFINITION. The statements for the provers. Unless a statement says otherwise it holds in every state of the part,
reached by a run or not. -/

open Sys2Proof Sys2Proof.Machine Sys2Proof.Safety

/-! ### The step -/

/-- A step takes the front command and executes it on the state with the queue's rest. -/
def Obligations.StepRunsFrontCommand : Prop :=
  ∀ (c : Instr) (rest : List Instr) (s : State), s.pending = c :: rest → step s = exec c { s with pending := rest }

/-- Every command completes in every state and leaves the queue of waiting commands. The manual does not say so in one
sentence: it names no condition that stops the part (log 8, an inference), and an event that cannot happen in a state
leaves the part as it is (log 1, the model's choice). On an empty queue one µs passes (the model's choice, log 2), and
while RST_N is low it is left open whether the time base counts (log 3). -/
def Obligations.EveryStepCompletes : Prop :=
  (∀ (i : Instr) (s : State), ∃ t, exec i s = .next t ∧ t.pending = s.pending) ∧
  ∀ s : State, s.pending = [] →
    (s.bridge.rstLow = false → step s = .next { s with bridge := { s.bridge with timeBase := s.bridge.timeBase + 1 } }) ∧
    (s.bridge.rstLow = true →
      step s = .next s ∨ step s = .next { s with bridge := { s.bridge with timeBase := s.bridge.timeBase + 1 } })

/-! ### Resets -/

/-- A cold reset takes every block to its cold values: windows, groups, miss policies, Query Tables, Management Engine,
ports, lines, capture queue and time base; the straps are sampled and RST_N is low. -/
def Obligations.ColdResetRestoresColdValues : Prop :=
  ∀ (u : UnitNo) (open_ : Bool) (s : State), ∃ t, exec (.coldReset u open_) s = .next t ∧
    t.pending = s.pending ∧
    (∀ i, t.bridge.slot i = { state := .free, window := WindowRecord.zero, inflight := 0 }) ∧
    (∀ g : Fin 8, t.bridge.groups[g] = if g = 0 then BitVec.allOnes 32 else 0) ∧
    t.bridge.miss = { down := .pass, up := .pass } ∧
    (∀ d e, t.bridge.entry d e = Entry.free) ∧ t.bridge.deadlineMs = 16 ∧ t.bridge.quarantineMs = 64 ∧
    t.bridge.engine = { queue := [], deferred := [], waiting := [], leafOpen := open_, resetForwarding := true } ∧
    t.bridge.rstLow = true ∧ t.bridge.timeBase = 0 ∧ t.bridge.unit = u ∧ t.bridge.capture = [] ∧
    t.bridge.overflowed = false ∧
    (∀ i, t.bridge.line i =
      { enabled := false, masked := true, level := false, state := .idle, target := 0, payload := 0,
        lastUnit := none }) ∧
    ∀ p, let x := t.bridge.port p
      let settings : LinkSettings := { widthCap := .w16, rateCap := .r12_8, trim := 0, replayTimeout := 20 }
      x.record =
        { state := .training, rate := .r3_2, width := none, attempts := 0, cause := .coldReset, inForce := settings,
          pendingSettings := settings, partnerMax := .r3_2, attemptStart := 0 } ∧
      (∀ i : Fin 16, x.lanes[i] =
        { result := .notSwept, inUse := false, first := 0, last := 0, centre := 0, applied := 0, rate := .r3_2 }) ∧
      (∀ c, x.ingress.pools.get c = [] ∧ x.ingress.account.get c = RxAccount.zero ∧
        x.credit.get c = SendAccount.zero ∧ x.egress.queues.get c = []) ∧
      x.ingress.activePlan = ⟨⟨16, 32⟩, ⟨16, 16⟩, ⟨16, 48⟩⟩ ∧ x.ingress.pendingPlan = ⟨⟨16, 32⟩, ⟨16, 16⟩, ⟨16, 48⟩⟩ ∧
      x.egress.admissions = 0 ∧
      x.egress.start = { reply := 1, stream := 2, query := 3 } ∧
      x.egress.current = { reply := 1, stream := 2, query := 3 } ∧
      x.send = { nextSeq := 0, buffer := [], timerStart := none, replayCount := 0, replayPos := none } ∧
      x.recv =
        { expected := 0, nakOutstanding := false, unacked := 0, ackBound := none, ackDue := false, nakDue := false,
          delivered := false }

/-- While RST_N is low only a cold reset and the release act; when it returns high both ports begin their cold trainings
at 3.2 Gbit/s and send the TRAIN pattern on 16 lanes, marker clear. No command is deferred while RST_N is low. -/
def Obligations.HeldLowUntilRelease : Prop :=
  (∀ (i : Instr) (s : State), s.bridge.rstLow = true → (∀ u l, i ≠ .coldReset u l) → i ≠ .rstNRelease →
    exec i s = .next s) ∧
  ∀ s : State, s.bridge.rstLow = true → s.bridge.engine.deferred = [] →
    ∃ t, exec .rstNRelease s = .next t ∧ t.pending = s.pending ∧ t.bridge.rstLow = false ∧
      t.bridge.timeBase = s.bridge.timeBase ∧ t.bridge.engine = s.bridge.engine ∧ t.bridge.tables = s.bridge.tables ∧
      t.bridge.slots = s.bridge.slots ∧ t.bridge.lines = s.bridge.lines ∧ t.bridge.capture = s.bridge.capture ∧
      ∀ p, (t.bridge.port p).out = (s.bridge.port p).out ++ [⟨.flit (.train false .r3_2), some .w16⟩] ∧
        (t.bridge.port p).record =
          { (s.bridge.port p).record with
            state := .training, rate := .r3_2, attempts := 0, cause := .coldReset,
            inForce := (s.bridge.port p).record.pendingSettings, attemptStart := s.bridge.timeBase } ∧
        (t.bridge.port p).egress = (s.bridge.port p).egress ∧ (t.bridge.port p).ingress = (s.bridge.port p).ingress

/-- A Root reset with reset forwarding on resets both ports and empties their egress queues with a DISCARDED record
for each that held packets, frees every Query entry, and empties the Management Engine. A window keeps its state and
record proper, and only a DRAINING one whose last reference the reset frees goes FREE; groups, miss policies, timers
and settings are kept. Every line goes to IDLE, and line 0 notifies where its condition holds. The Leaf port sends a
RESET flit before its TRAIN pattern. That the RESET flit goes out on 16 lanes is the model's reading of R146's "on its
lanes" (log 7). -/
def Obligations.RootResetWithForwarding : Prop :=
  ∀ (f : RawFlit) (s : State), running s → readFlit f = some .reset → s.bridge.engine.resetForwarding = true →
    let raised := flushed s.bridge .root ++ flushed s.bridge .leaf
    ∃ t, exec (.rootReset f) s = .next t ∧ t.pending = s.pending ∧
      PortIsReset s.bridge t.bridge .root ∧ PortIsReset s.bridge t.bridge .leaf ∧
      (∀ c, t.bridge.queue .leaf c = []) ∧
      (t.bridge.port .root).out = (s.bridge.port .root).out ++ [⟨.flit (.train false .r3_2), some .w16⟩] ∧
      (t.bridge.port .leaf).out =
        (s.bridge.port .leaf).out ++ [⟨.flit .reset, some .w16⟩, ⟨.flit (.train false .r3_2), some .w16⟩] ∧
      (∀ d e, t.bridge.entry d e = Entry.free) ∧
      t.bridge.engine =
        { queue := [], deferred := [], waiting := [], leafOpen := s.bridge.engine.leafOpen, resetForwarding := true } ∧
      (∀ i, t.bridge.slot i = slotReleased (s.bridge.slot i) (references s.bridge i fun _ _ => true)) ∧
      LinesNotified s.bridge t.bridge true (!raised.isEmpty) ∧ RecordsEntered s.bridge t.bridge raised ∧
      t.bridge.groups = s.bridge.groups ∧ t.bridge.miss = s.bridge.miss ∧ t.bridge.timeBase = s.bridge.timeBase ∧
      t.bridge.deadlineMs = s.bridge.deadlineMs ∧ t.bridge.quarantineMs = s.bridge.quarantineMs

/-- A Root reset with reset forwarding off resets the Root port, empties its egress queues with a DISCARDED record
where they held packets, and leaves the Leaf port as it is; both Query Tables act by 04 R84 and release the windows of
the entries they free, and the Management Engine keeps only deferred replies waiting for Leaf. Every line goes to IDLE,
and those whose condition holds notify again, the lowest first. Then, in the same event, the places of each Root queue
that was full are offered to the pushers that waited, as the first clause of ArbiterSendsHead has it, until the queue is
full or nobody can use a place; that Reply is offered before Stream and Stream before Query, and that the flush record
enters before anything the offering raises, is the model's choice (log 31), and so is that a packet which comes to the
head of its pool in the offering is offered the places left (log 10). -/
def Obligations.RootResetWithoutForwarding : Prop :=
  ∀ (f : RawFlit) (s : State), running s → readFlit f = some .reset → s.bridge.engine.resetForwarding = false →
    let fate := fun (d : Dir) (x : Entry) =>
      match d with
      | .down => downAfterReset s.bridge x
      | .up => upAfterReset x
    let raised := flushed s.bridge .root
    ∃ (b : Bridge) (t : State), exec (.rootReset f) s = .next t ∧ t.pending = s.pending ∧
      QueuesOffered s.bridge .root b t.bridge ∧ ((∀ c, s.bridge.hasRoom .root c = true) → t.bridge = b) ∧
      PortIsReset s.bridge b .root ∧
      (b.port .root).out = (s.bridge.port .root).out ++ [⟨.flit (.train false .r3_2), some .w16⟩] ∧
      b.port .leaf = s.bridge.port .leaf ∧
      (∀ d e, b.entry d e = fate d (s.bridge.entry d e)) ∧
      b.engine =
        { s.bridge.engine with
          queue := [], deferred := [],
          waiting := s.bridge.engine.waiting.filter fun r => r.port == .leaf && !r.immediate } ∧
      (∀ i, b.slot i = slotReleased (s.bridge.slot i)
        (references s.bridge i fun d x => x.state != .free && (fate d x).state == .free)) ∧
      LinesNotified s.bridge b false (!raised.isEmpty) ∧ RecordsEntered s.bridge b raised ∧
      b.groups = s.bridge.groups ∧ b.miss = s.bridge.miss ∧ b.timeBase = s.bridge.timeBase ∧
      b.deadlineMs = s.bridge.deadlineMs ∧ b.quarantineMs = s.bridge.quarantineMs

/-- A RESET flit taken at Leaf renumbers the Leaf replay buffer from 0, restarts the receive side, and begins a
training; entries, windows, credit and pools are kept. -/
def Obligations.ResetTakenAtLeafRenumbers : Prop :=
  ∀ (f : RawFlit) (s : State), running s → readFlit f = some .reset →
    ∃ t, exec (.resetFlitAtLeaf f) s = .next t ∧ t.pending = s.pending ∧
      let x := s.bridge.port .leaf
      let y := t.bridge.port .leaf
      y.send.buffer.length = x.send.buffer.length ∧
      (∀ (i : Nat) (h : i < y.send.buffer.length) (h' : i < x.send.buffer.length),
        y.send.buffer[i] = frame (BitVec.ofNat 12 i) x.send.buffer[i].pkt) ∧
      y.send.nextSeq = BitVec.ofNat 12 x.send.buffer.length ∧ y.send.replayCount = 0 ∧ y.send.replayPos = none ∧
      y.send.timerStart = none ∧
      y.recv =
        { expected := 0, nakOutstanding := false, unacked := 0, ackBound := none, ackDue := false, nakDue := false,
          delivered := false } ∧
      y.record =
        { x.record with
          state := .training, attempts := 0, cause := .leafResetReceived, inForce := x.record.pendingSettings,
          rate := Rate.min x.record.pendingSettings.rateCap x.record.rate, attemptStart := s.bridge.timeBase } ∧
      y.ingress = x.ingress ∧ y.credit = x.credit ∧ t.bridge.tables = s.bridge.tables ∧
      t.bridge.slots = s.bridge.slots ∧ (t.bridge.port .root).send = (s.bridge.port .root).send ∧
      (t.bridge.port .root).recv = (s.bridge.port .root).recv

/-! ### Received packets -/

/-- The receive side's judgement of a framed packet in ACTIVE: a bad check value, the expected packet without an
overrun, a packet ahead, an older packet; in every other port state the packet is discarded. Two clauses rest on
inferences of the model: the unacknowledged count stops at 8 (log 12), and a frame whose length is not its header's
counts as damaged (log 19). -/
def Obligations.FramesAreJudged : Prop :=
  ∀ (p : Port) (f : RxFrame) (s : State), running s →
    let b := s.bridge
    let r := (b.port p).recv
    let d := (f.seq - r.expected).toNat
    let k := framePacket f
    let nak := if r.nakOutstanding then b else b.onRecv p fun r => { r with nakDue := true }
    (b.isActive p = false → exec (.packetReceived p f) s = .next s) ∧
    (b.isActive p = true → goodFrame f = false →
      exec (.packetReceived p f) s = .next { s with bridge := raise (bareRecord .checkFail p b.timeBase) nak }) ∧
    (b.isActive p = true → goodFrame f = true → d = 0 → b.overrun p k = false →
      exec (.packetReceived p f) s = .next { s with
        bridge := b.setPort p { b.port p with
          ingress := { (b.port p).ingress with
            pools := (b.port p).ingress.pools.set k.cls (b.pool p k.cls ++ [k]),
            account := (b.port p).ingress.account.set k.cls { b.account p k.cls with
              occupied := ⟨(b.account p k.cls).occupied.headers + 1,
                (b.account p k.cls).occupied.blocks + k.blocks.toNat⟩,
              outstanding := ⟨(b.account p k.cls).outstanding.headers - 1,
                (b.account p k.cls).outstanding.blocks - k.blocks.toNat⟩ } },
          recv := { r with
            expected := r.expected + 1, nakOutstanding := false, delivered := true,
            unacked := min 8 (r.unacked + 1),
            ackBound := if r.unacked = 0 then some (b.timeBase + 2) else r.ackBound,
            ackDue := r.ackDue || decide (8 ≤ r.unacked + 1) } } }) ∧
    (b.isActive p = true → goodFrame f = true → 1 ≤ d → d < 2048 →
      exec (.packetReceived p f) s = .next { s with bridge := nak }) ∧
    (b.isActive p = true → goodFrame f = true → 2048 ≤ d →
      exec (.packetReceived p f) s =
        .next { s with bridge := b.onRecv p fun r => { r with ackDue := r.ackDue || r.delivered } })

/-- A packet is a credit overrun exactly when it would take outstanding below the negative of the replay allowance or
the occupied totals above 48 headers or 96 blocks; it is not delivered, its record is raised, and the port retrains.
That the record takes the last place before the DISCARDED record of a failing drain's reply is the model's choice (log
31). -/
def Obligations.CreditOverrunRetrains : Prop :=
  ∀ (p : Port) (f : RxFrame) (s : State), running s → s.bridge.isActive p = true → goodFrame f = true →
    f.seq = (s.bridge.port p).recv.expected →
    let b := s.bridge
    let k := framePacket f
    let a := b.account p k.cls
    let all := b.occupiedAll p
    let tooMuch := a.outstanding.headers - 1 < -(a.allowance.headers : Int) ∨
      a.outstanding.blocks - (k.blocks.toNat : Int) < -(a.allowance.blocks : Int) ∨
      48 < all.headers + 1 ∨ 96 < all.blocks + k.blocks.toNat
    all.headers = (b.account p .stream).occupied.headers + (b.account p .query).occupied.headers +
      (b.account p .reply).occupied.headers ∧
    all.blocks = (b.account p .stream).occupied.blocks + (b.account p .query).occupied.blocks +
      (b.account p .reply).occupied.blocks ∧
    (b.overrun p k = true ↔ tooMuch) ∧
    (tooMuch →
      ∃ t, exec (.packetReceived p f) s = .next t ∧
        (b.capture.length < 16 →
          { bareRecord .creditOverrun p b.timeBase with src := some k.src, tag := some k.tag } ∈ t.bridge.capture) ∧
        (16 ≤ b.capture.length → t.bridge.overflowed = true) ∧
        (t.bridge.port p).ingress = (b.port p).ingress ∧
        (t.bridge.port p).recv = { (b.port p).recv with ackDue := false, nakDue := false } ∧
        (t.bridge.port p).send = { (b.port p).send with timerStart := none, replayPos := none } ∧
        t.bridge.linkState p = .training ∧ (t.bridge.port p).record.cause = .creditOverrun ∧
        t.bridge.tables = b.tables)

/-! ### Received flits -/

/-- The partner's TRAIN, by port state: DOWN, ACTIVE, PARKED and WAKING begin a training at the lower of the rate cap
taken into force and the partner's rate; TRAINING waits for its own sweep and the marker; CONFIG ignores a set marker
and fails on a clear one, the third failure taking the port DOWN. -/
def Obligations.TrainActsByState : Prop :=
  ∀ (p : Port) (f : RawFlit) (marker : Bool) (rate : Rate) (s : State), running s →
    readFlit f = some (.train marker rate) →
    let b := s.bridge
    (b.linkState p = .down ∨ b.linkState p = .active ∨ b.linkState p = .parked ∨ b.linkState p = .waking →
      ∃ t, exec (.partnerTrainDetected p f) s = .next t ∧
        (t.bridge.port p).record =
          { (b.port p).record with
            state := .training, attempts := 0, cause := .partnerTrain, inForce := (b.port p).record.pendingSettings,
            rate := Rate.min (b.port p).record.pendingSettings.rateCap rate, attemptStart := b.timeBase } ∧
        (t.bridge.port p).send = { (b.port p).send with timerStart := none, replayPos := none } ∧
        t.bridge.tables = b.tables ∧ t.bridge.slots = b.slots) ∧
    (b.linkState p = .training → marker = false ∨ (b.port p).training.usable = none →
      exec (.partnerTrainDetected p f) s = .next s) ∧
    (b.linkState p = .training → marker = true → (b.port p).training.usable ≠ none →
      (b.port p).training.keptConfig = none →
      exec (.partnerTrainDetected p f) s = .next { s with bridge := sendConfig p (b.setLinkState p .config) }) ∧
    (b.linkState p = .config → marker = true → exec (.partnerTrainDetected p f) s = .next s) ∧
    (b.linkState p = .config → marker = false → (b.port p).record.attempts < 2 →
      ∃ t, exec (.partnerTrainDetected p f) s = .next t ∧
        (t.bridge.port p).record =
          { (b.port p).record with
            state := .training, attempts := (b.port p).record.attempts + 1, rate := .r3_2,
            attemptStart := b.timeBase } ∧
        t.bridge.engine = b.engine ∧ t.bridge.tables = b.tables) ∧
    (b.linkState p = .config → marker = false → (b.port p).record.attempts = 2 →
      ∃ t, exec (.partnerTrainDetected p f) s = .next t ∧ t.pending = s.pending ∧ ThirdFailure b t.bridge p)

/-- A port's own CONFIG flit sets its receive account: the pending plan at the first of a training, the initial
credits, the replay allowances; it is sent on the usable lanes, after an ACK when the port has delivered since its
numbers restarted. -/
def Obligations.ConfigFlitSetsReceiveAccount : Prop :=
  ∀ (p : Port) (b : Bridge) (c : Cls),
    let x := b.port p
    let y := (sendConfig p b).port p
    let plan := if x.training.planTaken then x.ingress.activePlan else x.ingress.pendingPlan
    let a := x.ingress.account.get c
    let initialHeaders : Int := (plan.get c).headers - a.occupied.headers
    let initialBlocks : Int := (plan.get c).blocks - a.occupied.blocks
    y.ingress.activePlan = plan ∧ y.ingress.pendingPlan = x.ingress.pendingPlan ∧ y.ingress.pools = x.ingress.pools ∧
    y.ingress.account.get c =
      { occupied := a.occupied, outstanding := ⟨initialHeaders, initialBlocks⟩, freed := ⟨0, 0⟩, returns := ⟨0, 0⟩,
        allowance :=
          ⟨(a.outstanding.headers + a.allowance.headers - initialHeaders).toNat,
            (a.outstanding.blocks + a.allowance.blocks - initialBlocks).toNat⟩ } ∧
    ∃ flit : ConfigFlit,
      y.out = x.out ++
        (if x.recv.delivered then [⟨.flit (.ack (x.recv.expected - 1)), x.training.usable⟩] else []) ++
        [⟨.flit (.config flit), x.training.usable⟩] ∧
      flit.restart = x.training.restartFlag ∧ flit.maxRate = x.record.inForce.rateCap ∧
      (x.training.usable = some flit.maxWidth ∨ x.training.usable = none) ∧
      (flit.credits.get c).headers = BitVec.ofInt 8 initialHeaders ∧
      (flit.credits.get c).blocks = BitVec.ofInt 8 initialBlocks

/-- The partner's CONFIG flit taken in CONFIG at an agreed rate not below the link rate: the restart flag renumbers
the port, a kept ACK removes what it names, the send account is set afresh less the replay debt, and the port enters
ACTIVE at the agreed width with a resumption replay. A LINK_RETRAIN whose training this was is answered DONE OK; one
that waited begins its training. The agreed width and rate are the lower of the two, and the lanes below the width are
marked in use; the replay debt of a class is one header for each of its packets in the replay buffer, and their blocks.
-/
def Obligations.ConfigTakenEntersActive : Prop :=
  (∀ a b : Rate, (Rate.min a b).code.toNat = min a.code.toNat b.code.toNat) ∧
  (∀ a b : Width, (Width.min a b).lanes = min a.lanes b.lanes) ∧
  (∀ (lanes : Vector LaneRec 16) (w : Width) (i : Fin 16),
    (markInUse lanes w)[i] = { lanes[i] with inUse := lanes[i].inUse || decide (i.val < w.lanes) }) ∧
  (∀ (l : List Framed) (cls : Cls), replayDebt l cls =
    ⟨(l.filter fun f => f.pkt.cls == cls).length, ((l.filter fun f => f.pkt.cls == cls).map fun f => f.pkt.blocks.toNat).sum⟩) ∧
  ∀ (p : Port) (f : RawFlit) (c : ConfigFlit) (w : Width) (s : State), running s → readFlit f = some (.config c) →
    let b := s.bridge
    let x := b.port p
    b.linkState p = .config → x.training.usable = some w →
    (Rate.min x.record.inForce.rateCap c.maxRate).code.toNat ≥ x.record.rate.code.toNat →
    let width := Width.min w c.maxWidth
    let numbered : List Framed :=
      if c.restart then x.send.buffer.mapIdx fun i f => frame (BitVec.ofNat 12 i) f.pkt else x.send.buffer
    let oldest : Seq := (numbered.head?.map Framed.seq).getD 0
    let left : List Framed := match x.training.keptAck with
      | none => numbered
      | some n => if (n - oldest).toNat < numbered.length then numbered.drop ((n - oldest).toNat + 1) else numbered
    let held := fun (initial : Amount Byte) (cls : Cls) =>
      ({ held :=
          ⟨initial.headers.toInt - (replayDebt left cls).headers, initial.blocks.toInt - (replayDebt left cls).blocks⟩,
         seen := ⟨0, 0⟩ } : SendAccount)
    let entered := b.setPort p { x with
      record := { x.record with state := .active, width := some width, attempts := 0, partnerMax := c.maxRate },
      training := { x.training with keptAck := none, keptConfig := none, restartFlag := false },
      lanes := markInUse x.lanes width,
      ingress := { x.ingress with lastCredit := b.timeBase },
      credit := ⟨held c.credits.stream .stream, held c.credits.query .query, held c.credits.reply .reply⟩,
      send :=
        { nextSeq := if c.restart then BitVec.ofNat 12 x.send.buffer.length else x.send.nextSeq, buffer := left,
          replayCount := 0, timerStart := none, replayPos := if left = [] then none else some 0 },
      recv :=
        if c.restart then
          { x.recv with expected := 0, nakOutstanding := false, unacked := 0, ackBound := none, delivered := false }
        else { x.recv with nakOutstanding := false } }
    (b.engine.deferred.find? (·.retrains p) = none → exec (.configReceived p f) s = .next { s with bridge := entered }) ∧
    (∀ d, b.engine.deferred.find? (·.retrains p) = some d → d.op = .retrain p true →
      exec (.configReceived p f) s = .next { s with
        bridge := deliver
          { port := d.port, immediate := false,
            pkt := replyPacket b.unit d.src d.tag 10 .ok
              [Port.code p, BitVec.ofNat 8 width.lanes, x.record.rate.code.zeroExtend 8] }
          (entered.onEngine fun e => { e with deferred := e.deferred.eraseP (·.retrains p) }) }) ∧
    (b.engine.deferred.any (·.retrains p) = true → (∀ d ∈ b.engine.deferred, d.op ≠ .retrain p true) →
      ∃ t, exec (.configReceived p f) s = .next t ∧ t.bridge.linkState p = .training ∧
        (t.bridge.port p).record.cause = .retrain)

/-- A CONFIG flit elsewhere: kept in TRAINING while the sweep runs; in TRAINING once the sweep has found a usable width
the port sends its own CONFIG flit and takes this one in the same event, as it would in CONFIG; discarded in DOWN,
ACTIVE, PARKED and WAKING; and in CONFIG an agreed rate below the link rate fails the attempt, which begins another at
3.2 Gbit/s while fewer than two have failed and takes the port DOWN, with the send account set afresh, when two have. -/
def Obligations.ConfigKeptDiscardedOrFails : Prop :=
  ∀ (p : Port) (f : RawFlit) (c : ConfigFlit) (s : State), running s → readFlit f = some (.config c) →
    let b := s.bridge
    let x := b.port p
    (b.linkState p = .training → x.training.usable = none → x.training.keptConfig = none →
      exec (.configReceived p f) s = .next { s with
        bridge := b.setPort p { x with training := { x.training with keptConfig := some c } } }) ∧
    (b.linkState p = .training → x.training.usable ≠ none → x.training.keptConfig = none →
      exec (.configReceived p f) s =
        exec (.configReceived p f) { s with bridge := sendConfig p (b.setLinkState p .config) }) ∧
    (b.linkState p = .down ∨ b.linkState p = .active ∨ b.linkState p = .parked ∨ b.linkState p = .waking →
      exec (.configReceived p f) s = .next s) ∧
    (b.linkState p = .config → (Rate.min x.record.inForce.rateCap c.maxRate).code.toNat < x.record.rate.code.toNat →
      x.record.attempts < 2 →
      ∃ t, exec (.configReceived p f) s = .next t ∧
        (t.bridge.port p).record =
          { x.record with
            state := .training, attempts := x.record.attempts + 1, rate := .r3_2, partnerMax := c.maxRate,
            attemptStart := b.timeBase } ∧
        t.bridge.engine = b.engine ∧ t.bridge.tables = b.tables) ∧
    (b.linkState p = .config → (Rate.min x.record.inForce.rateCap c.maxRate).code.toNat < x.record.rate.code.toNat →
      x.record.attempts = 2 →
      ∃ t, exec (.configReceived p f) s = .next t ∧ t.pending = s.pending ∧
        ThirdFailure
          (b.setPort p { x with
            record := { x.record with partnerMax := c.maxRate }, credit := creditAtConfig x c }) t.bridge p)

/-- An ACK taken in ACTIVE removes the oldest entries up to and including the one it names, and changes nothing when it
names none; in TRAINING and CONFIG it is kept for the partner's CONFIG flit (in CONFIG by the model's reading, log 13),
and in DOWN, PARKED and WAKING it is discarded. -/
def Obligations.AckRemovesEntries : Prop :=
  ∀ (p : Port) (f : RawFlit) (n : Seq) (s : State), running s → readFlit f = some (.ack n) →
    let b := s.bridge
    let q := b.port p
    let x := q.send
    (∀ (o : Framed) (rest : List Framed), b.linkState p = .active → x.buffer = o :: rest →
      let d := (n - o.seq).toNat
      let left := x.buffer.drop (d + 1)
      (x.buffer.length ≤ d → exec (.ackReceived p f) s = .next s) ∧
      (d < x.buffer.length →
        exec (.ackReceived p f) s = .next { s with
          bridge := b.setPort p { q with
            send := { x with
              buffer := left, replayCount := 0,
              timerStart := if left = [] then none else if x.replayPos = none then some b.timeBase else x.timerStart,
              replayPos := if left = [] then none else x.replayPos.map fun i => i - (d + 1) } } })) ∧
    (b.linkState p = .active → x.buffer = [] → exec (.ackReceived p f) s = .next s) ∧
    (b.linkState p = .training ∨ b.linkState p = .config → q.training.keptConfig = none →
      exec (.ackReceived p f) s = .next { s with
        bridge := b.setPort p { q with training := { q.training with keptAck := some n } } }) ∧
    (b.linkState p = .down ∨ b.linkState p = .parked ∨ b.linkState p = .waking → exec (.ackReceived p f) s = .next s)

/-- A NAK taken in ACTIVE by its distance from the oldest entry: it removes the entries before the one it names and
triggers a replay, or removes every entry, or names nothing (a replay in progress then ends and the timer starts, log
16). With an empty replay buffer it changes nothing, and outside ACTIVE it is discarded. That REPLAY_LIMIT takes the
last capture place before the DISCARDED record of a failing drain's reply is the model's choice (log 31). -/
def Obligations.NakTriggersReplay : Prop :=
  ∀ (p : Port) (f : RawFlit) (n : Seq) (s : State), running s → readFlit f = some (.nak n) →
    let b := s.bridge
    let x := (b.port p).send
    (b.isActive p = false → exec (.nakReceived p f) s = .next s) ∧
    (b.isActive p = true → x.buffer = [] → x.replayPos = none → x.timerStart = none →
      exec (.nakReceived p f) s = .next s) ∧
    ∀ (o : Framed) (rest : List Framed), b.isActive p = true → x.buffer = o :: rest →
      let d := (n - o.seq).toNat
      (d < x.buffer.length → x.replayCount < 4 →
        exec (.nakReceived p f) s = .next { s with
          bridge := b.setPort p { b.port p with
            send := { x with
              buffer := x.buffer.drop d, replayCount := x.replayCount + 1, replayPos := some 0, timerStart := none } } }) ∧
      (d < x.buffer.length → 4 ≤ x.replayCount →
        ∃ t, exec (.nakReceived p f) s = .next t ∧ t.bridge.linkState p = .training ∧
          (t.bridge.port p).record.cause = .replayLimit ∧ (t.bridge.port p).send.buffer = x.buffer.drop d ∧
          (b.capture.length < 16 → bareRecord .replayLimit p b.timeBase ∈ t.bridge.capture)) ∧
      (d = x.buffer.length →
        exec (.nakReceived p f) s = .next { s with
          bridge := b.setPort p { b.port p with
            send := { x with buffer := [], replayPos := none, timerStart := none } } }) ∧
      (x.buffer.length < d → x.replayPos = none → exec (.nakReceived p f) s = .next s) ∧
      (x.buffer.length < d → x.replayPos ≠ none →
        exec (.nakReceived p f) s = .next { s with
          bridge := b.setPort p { b.port p with
            send := { x with replayPos := none, timerStart := some b.timeBase } } })

/-- A CREDIT flit taken in ACTIVE raises each held count by the difference of the return totals modulo 256 and stores
the totals as seen; in any other state it is discarded. -/
def Obligations.CreditRaisesHeldCounts : Prop :=
  ∀ (p : Port) (f : RawFlit) (totals : PerClass (Amount Byte)) (s : State), running s →
    readFlit f = some (.credit totals) →
    let b := s.bridge
    (b.isActive p = false → exec (.creditReceived p f) s = .next s) ∧
    (b.isActive p = true →
      ∃ credit, exec (.creditReceived p f) s = .next { s with
          bridge := b.setPort p { b.port p with credit := credit } } ∧
        ∀ c, credit.get c =
          { held :=
              ⟨((b.port p).credit.get c).held.headers +
                  ((totals.get c).headers.toNat + 256 - ((b.port p).credit.get c).seen.headers.toNat) % 256,
                ((b.port p).credit.get c).held.blocks +
                  ((totals.get c).blocks.toNat + 256 - ((b.port p).credit.get c).seen.blocks.toNat) % 256⟩,
            seen := totals.get c })

/-- PARK, WAKE and IDLE by port state; a WAKE answer goes on the lanes in use. A port is drained when its three egress
queues and its replay buffer are empty. A PARK flit that parks the port ends a LINK_PARK drain with DONE BUSY; one
answered with a WAKE leaves the drain to go on. A LINK_RETRAIN that waits begins its training in the event the WAKE
makes the port ACTIVE, with the first TRAIN behind the WAKE a PARKED port answers; one whose training ran is answered
DONE OK. -/
def Obligations.ParkWakeIdleByState : Prop :=
  (∀ (b : Bridge) (p : Port), b.drained p = true ↔ (∀ c, b.queue p c = []) ∧ (b.port p).send.buffer = []) ∧
  ∀ (p : Port) (f : RawFlit) (s : State), running s →
    let b := s.bridge
    let x := b.port p
    let parked := b.setPort p { x with
      record := { x.record with state := .parked },
      recv := { x.recv with ackDue := false, nakDue := false },
      send := { x.send with timerStart := none, replayPos := none } }
    let woken : PortState :=
      { x with record := { x.record with state := .active }, ingress := { x.ingress with lastCredit := b.timeBase } }
    let answered : PortState :=
      { woken with
        out := x.out ++ [⟨.flit .wake, x.record.width⟩],
        training := { x.training with wakeStart := b.timeBase, lastWake := b.timeBase } }
    (readFlit f = some .park → b.linkState p = .active → b.drained p = true → noDrain b p →
      exec (.parkReceived p f) s = .next { s with bridge := parked }) ∧
    (∀ (d : Deferred) (bound : Time), readFlit f = some .park → b.linkState p = .active → b.drained p = true →
      b.engine.deferred.filter (·.parks p) = [d] → d.op = .park p bound →
      let reply : MgmtReply :=
        { port := d.port, pkt := replyPacket b.unit d.src d.tag 11 .busy [], immediate := false }
      ∃ t, exec (.parkReceived p f) s = .next t ∧
        t = { s with
          bridge := deliver reply (parked.onEngine fun e => { e with deferred := e.deferred.eraseP (·.parks p) }) } ∧
        noDrain t.bridge p ∧ ReplyGiven b t.bridge reply) ∧
    (readFlit f = some .park → b.linkState p = .active → b.drained p = false →
      exec (.parkReceived p f) s = .next { s with bridge := b.setPort p { x with out := x.out ++ [⟨.flit .wake, x.record.width⟩] } }) ∧
    (∀ (entered : PortState), readFlit f = some .wake →
      (b.linkState p = .waking ∧ entered = woken) ∨ (b.linkState p = .parked ∧ entered = answered) →
      (b.engine.deferred.any (·.retrains p) = false →
        exec (.wakeReceived p f) s = .next { s with bridge := b.setPort p entered }) ∧
      (b.engine.deferred.any (·.retrains p) = true → (∀ d ∈ b.engine.deferred, d.op ≠ .retrain p true) → noDrain b p →
        exec (.wakeReceived p f) s = .next { s with
          bridge :=
            (b.setPort p { entered with
              record :=
                { x.record with
                  state := .training, attempts := 0, cause := .retrain, inForce := x.record.pendingSettings,
                  rate := Rate.min x.record.pendingSettings.rateCap x.record.partnerMax, attemptStart := b.timeBase },
              recv := { x.recv with ackDue := false, nakDue := false },
              send := { x.send with timerStart := none, replayPos := none },
              training :=
                { entered.training with
                  planTaken := false, usable := none, keptAck := none, keptConfig := none, sentAck := none,
                  sentConfig := none },
              lanes := x.lanes.map fun l => { l with inUse := false },
              out := entered.out ++
                [⟨.flit (.train false (Rate.min x.record.pendingSettings.rateCap x.record.partnerMax)), some .w16⟩] }).onEngine
              fun e => { e with
                deferred := e.deferred.map fun d =>
                  if d.op = .retrain p false then { d with op := .retrain p true } else d } }) ∧
      (∀ d, b.engine.deferred.find? (·.retrains p) = some d → d.op = .retrain p true →
        exec (.wakeReceived p f) s = .next { s with
          bridge := deliver
            { port := d.port, immediate := false,
              pkt := replyPacket b.unit d.src d.tag 10 .ok
                [Port.code p, (match x.record.width with | none => 0 | some w => BitVec.ofNat 8 w.lanes),
                  x.record.rate.code.zeroExtend 8] }
            ((b.setPort p entered).onEngine fun e => { e with deferred := e.deferred.eraseP (·.retrains p) }) })) ∧
    (b.linkState p ≠ .active → exec (.parkReceived p f) s = .next s) ∧
    (b.linkState p ≠ .parked ∧ b.linkState p ≠ .waking → exec (.wakeReceived p f) s = .next s) ∧
    exec (.idleReceived p f) s = .next s

/-! ### Link timers and repeats -/

/-- A sweep writes every lane record, and finds the usable width: the largest step whose lanes are all PASSED, capped by
the width cap. With one, the marker is set and the port stays in TRAINING until it knows the partner's, or, where it has
kept the partner's CONFIG flit, sends its own and takes that flit in the same event (an inference of the model, log 14);
with none, the attempt fails, and the third failure takes the port DOWN. -/
def Obligations.SweepFindsUsableWidth : Prop :=
  ∀ (p : Port) (passing : Vector (BitVec 64) 16) (s : State), running s →
    let b := s.bridge
    let x := b.port p
    let lanes := passing.mapIdx fun _ l => sweptLane x.record.rate x.record.inForce.trim l
    let cap := x.record.inForce.widthCap
    (∀ w, usableWidth lanes cap = some w →
      (∀ i : Fin 16, i.val < w.lanes → lanes[i].result = .passed) ∧ w.lanes ≤ cap.lanes ∧
      ∀ v : Width, w.lanes < v.lanes → v.lanes ≤ cap.lanes → ∃ i : Fin 16, i.val < v.lanes ∧ lanes[i].result ≠ .passed) ∧
    (usableWidth lanes cap = none → ∃ i : Fin 16, i.val < 4 ∧ lanes[i].result ≠ .passed) ∧
    (∀ w, b.linkState p = .training → x.training.usable = none → x.training.keptConfig = none →
      usableWidth lanes cap = some w →
      exec (.sweepEnds p passing) s = .next { s with
        bridge := b.setPort p { x with
          lanes := lanes, training := { x.training with usable := some w },
          out := x.out ++ [⟨.flit (.train true x.record.rate), some .w16⟩] } }) ∧
    (∀ (w : Width) (c : ConfigFlit) (f : RawFlit), b.linkState p = .training → x.training.usable = none →
      x.training.keptConfig = some c → usableWidth lanes cap = some w → readFlit f = some (.config c) →
      let swept := b.setPort p { x with
        lanes := lanes, training := { x.training with usable := some w },
        out := x.out ++ [⟨.flit (.train true x.record.rate), some .w16⟩] }
      exec (.sweepEnds p passing) s =
        exec (.configReceived p f) { s with bridge := sendConfig p (swept.setLinkState p .config) }) ∧
    (b.linkState p = .training → x.training.usable = none → usableWidth lanes cap = none → x.record.attempts < 2 →
      ∃ t, exec (.sweepEnds p passing) s = .next t ∧
        (t.bridge.port p).record =
          { x.record with
            state := .training, attempts := x.record.attempts + 1, rate := .r3_2, attemptStart := b.timeBase } ∧
        (t.bridge.port p).lanes = lanes ∧ (t.bridge.port p).training.usable = none ∧
        (t.bridge.port p).out = x.out ++ [⟨.flit (.train false .r3_2), some .w16⟩]) ∧
    (b.linkState p = .training → x.training.usable = none → usableWidth lanes cap = none → x.record.attempts = 2 →
      ∃ t, exec (.sweepEnds p passing) s = .next t ∧ t.pending = s.pending ∧ ThirdFailure b t.bridge p ∧
        (t.bridge.port p).lanes = lanes)

/-- The record of a swept lane: FAILED with no passing code, else the widest run of passing codes, the lowest first
among equals, with its centre and the trimmed applied code. -/
def Obligations.SweptLaneHoldsWidestRun : Prop :=
  ∀ (rate : Rate) (trim : Int) (passing : BitVec 64),
    let l := sweptLane rate trim passing
    let isRun := fun (a z : Nat) => a ≤ z ∧ z < 64 ∧ ∀ i, a ≤ i → i ≤ z → passing.getLsbD i = true
    l.rate = rate ∧ l.inUse = false ∧
    (passing = 0 → l.result = .failed ∧ l.first = 0 ∧ l.last = 0 ∧ l.centre = 0 ∧ l.applied = 0) ∧
    (passing ≠ 0 → l.result = .passed ∧ isRun l.first l.last ∧
      (∀ a z, isRun a z → z - a < l.last - l.first ∨ (z - a = l.last - l.first ∧ l.first ≤ a)) ∧
      l.centre = (l.first + l.last) / 2 ∧
      ((l.centre : Int) + trim < 0 → l.applied = 0) ∧ (63 < (l.centre : Int) + trim → l.applied = 63) ∧
      (0 ≤ (l.centre : Int) + trim → (l.centre : Int) + trim ≤ 63 → (l.applied : Int) = l.centre + trim))

/-- The attempt bound fails an attempt in TRAINING or CONFIG, and the third failure takes the port DOWN: LINK_LOST
and, where its egress held packets, DISCARDED are raised; the entries whose far port it is owe DONE LINK_DOWN, and
those whose requester port it is push what they owe; its listed LINK_RETRAIN is answered DONE LINK_DOWN. Where every
packet stands in the pool of its class (StepKeepsCredit) and every waiting management reply is a DONE
(StepKeepsEngine), the loss also reaches the lines, the waiting replies, the heads that waited for the port, and the
windows of the freed entries (`LossReaches`), in whatever order the blocks act (log 24). The wake bound begins a
training from WAKING. That a moment counts as reached for half the wrap period is the model's choice (log 2). -/
def Obligations.AttemptAndWakeBounds : Prop :=
  (∀ now moment : Time, reached now moment = true ↔ (now - moment).toNat < 2 ^ 31) ∧
  (∀ (t : Time) (us : Nat), after t us = t + BitVec.ofNat 32 us) ∧
  ∀ (p : Port) (s : State), running s →
    let b := s.bridge
    let x := b.port p
    let passed := (b.linkState p = .training ∨ b.linkState p = .config) ∧
      reached b.timeBase (after x.record.attemptStart 2000) = true
    (passed → x.record.attempts < 2 →
      ∃ t, exec (.attemptBoundPasses p) s = .next t ∧
        (t.bridge.port p).record =
          { x.record with
            state := .training, attempts := x.record.attempts + 1, rate := .r3_2, attemptStart := b.timeBase } ∧
        (t.bridge.port p).send = x.send ∧ (t.bridge.port p).egress = x.egress ∧ t.bridge.tables = b.tables ∧
        t.bridge.engine = b.engine ∧ t.bridge.capture = b.capture) ∧
    (passed → x.record.attempts = 2 →
      ∃ t, exec (.attemptBoundPasses p) s = .next t ∧ PortLost b t.bridge p ∧
        (PoolsByClass b → RepliesAreDone b → LossReaches b t.bridge p) ∧
        (∀ (d : Deferred) (began : Bool), b.engine.deferred.filter (·.retrains p) = [d] → d.op = .retrain p began →
          t.bridge.engine.deferred.any (·.retrains p) = false ∧
          ReplyGiven b t.bridge
            { port := d.port, pkt := replyPacket b.unit d.src d.tag 10 .linkDown [], immediate := false }) ∧
        (LostQuietly b p →
          RecordsEntered b t.bridge (bareRecord .linkLost p b.timeBase :: flushed b p) ∧
          t.bridge.port p.other = b.port p.other ∧ t.bridge.engine = b.engine)) ∧
    (b.linkState p = .waking → reached b.timeBase (after x.training.wakeStart 2000) = true →
      ∃ t, exec (.wakeBoundPasses p) s = .next t ∧
        (t.bridge.port p).record =
          { x.record with
            state := .training, attempts := 0, cause := .wakeTimeout, inForce := x.record.pendingSettings,
            rate := Rate.min x.record.pendingSettings.rateCap x.record.rate, attemptStart := b.timeBase } ∧
        t.bridge.tables = b.tables ∧ t.bridge.slots = b.slots)

/-- A LINK_PARK drain ends: with everything empty the port parks and the command is answered DONE OK; at its bound it
fails with DONE BUSY; and when the port leaves ACTIVE, here for the partner's TRAIN, it fails with DONE BUSY and the
training begins. In each case it leaves the deferred list. -/
def Obligations.ParkDrainEnds : Prop :=
  ∀ (p : Port) (d : Deferred) (bound : Time) (s : State), running s →
    let b := s.bridge
    b.engine.deferred.find? (·.parks p) = some d → d.op = .park p bound →
    let freed := b.onEngine fun e => { e with deferred := e.deferred.eraseP (·.parks p) }
    let reply := fun status : Status =>
      ({ port := d.port, pkt := replyPacket b.unit d.src d.tag 11 status [], immediate := false } : MgmtReply)
    (b.isActive p = true → b.drained p = true → (b.port p).send.replayPos = none →
      exec (.parkDrainCompletes p) s = .next { s with
        bridge := deliverWith push (reply .ok) (d.port != p) (freed.setPort p { b.port p with
          record := { (b.port p).record with state := .parked },
          out := (b.port p).out ++ [⟨.flit .park, (b.port p).record.width⟩],
          recv := { (b.port p).recv with ackDue := false, nakDue := false },
          send := { (b.port p).send with timerStart := none, replayPos := none } }) }) ∧
    (reached b.timeBase bound = true →
      exec (.parkDrainBoundPasses p) s = .next { s with bridge := deliver (reply .busy) freed }) ∧
    (∀ (f : RawFlit) (marker : Bool) (rate : Rate), b.isActive p = true → readFlit f = some (.train marker rate) →
      b.engine.deferred.filter (·.parks p) = [d] →
      ∃ t, exec (.partnerTrainDetected p f) s = .next t ∧ t.bridge.linkState p = .training ∧ noDrain t.bridge p ∧
        ReplyGiven b t.bridge (reply .busy))

/-- The replay timer's expiry in ACTIVE begins a replay from the oldest entry at replay counts 0 to 3, and retrains
the port with REPLAY_LIMIT at 4; before the timeout in force has passed nothing happens. That REPLAY_LIMIT takes the
last capture place before the DISCARDED record of a failing drain's reply is the model's choice (log 31). -/
def Obligations.ReplayTimerExpiry : Prop :=
  ∀ (p : Port) (start : Time) (s : State), running s →
    let b := s.bridge
    let x := (b.port p).send
    b.isActive p = true → x.buffer ≠ [] → x.replayPos = none → x.timerStart = some start →
    let due := reached b.timeBase (after start (b.port p).record.inForce.replayTimeout)
    (due = false → exec (.replayTimerExpires p) s = .next s) ∧
    (due = true → x.replayCount < 4 →
      exec (.replayTimerExpires p) s = .next { s with
        bridge := b.setPort p { b.port p with
          send := { x with replayCount := x.replayCount + 1, replayPos := some 0, timerStart := none } } }) ∧
    (due = true → 4 ≤ x.replayCount →
      ∃ t, exec (.replayTimerExpires p) s = .next t ∧ t.bridge.linkState p = .training ∧
        (t.bridge.port p).record.cause = .replayLimit ∧ (t.bridge.port p).send.buffer = x.buffer ∧
        (t.bridge.port p).send.nextSeq = x.nextSeq ∧ t.bridge.tables = b.tables ∧
        (b.capture.length < 16 → bareRecord .replayLimit p b.timeBase ∈ t.bridge.capture))

/-- The 10 µs repeats: CREDIT in ACTIVE with its current totals, which also returns what is freed (log 21): freed
moves to outstanding and into the totals sent, and with nothing freed the totals are as they were; ACK and CONFIG in
CONFIG with the values of the first sending, WAKE in WAKING. The repeats of CONFIG and WAKE end at the bounds, 2 ms on:
the attempt bound fails an attempt in TRAINING or CONFIG, which begins the next one or, the third time, takes the port
DOWN; the wake bound begins a training. Before its bound, or in another state, neither row has an effect. That a moment
counts as reached for half the wrap period is the model's choice (log 2). -/
def Obligations.RepeatsEveryTenMicroseconds : Prop :=
  ∀ (p : Port) (s : State), running s →
    let b := s.bridge
    let x := b.port p
    (b.isActive p = true → reached b.timeBase (after x.ingress.lastCredit 10) = true → (∀ c, (b.account p c).freed = ⟨0, 0⟩) →
      exec (.creditRepeatDue p) s = .next { s with
        bridge := b.setPort p { x with
          ingress := { x.ingress with lastCredit := b.timeBase },
          out := x.out ++ [⟨.flit (.credit (x.ingress.account.map RxAccount.returns)), x.record.width⟩] } }) ∧
    (b.isActive p = true → reached b.timeBase (after x.ingress.lastCredit 10) = true →
      ∃ account : PerClass RxAccount,
        exec (.creditRepeatDue p) s = .next { s with
          bridge := b.setPort p { x with
            ingress := { x.ingress with account := account, lastCredit := b.timeBase },
            out := x.out ++ [⟨.flit (.credit (account.map RxAccount.returns)), x.record.width⟩] } } ∧
        ∀ c, account.get c =
          { occupied := (b.account p c).occupied, allowance := (b.account p c).allowance, freed := ⟨0, 0⟩,
            outstanding :=
              ⟨(b.account p c).outstanding.headers + (b.account p c).freed.headers,
                (b.account p c).outstanding.blocks + (b.account p c).freed.blocks⟩,
            returns :=
              ⟨(b.account p c).returns.headers + BitVec.ofNat 8 (b.account p c).freed.headers,
                (b.account p c).returns.blocks + BitVec.ofNat 8 (b.account p c).freed.blocks⟩ }) ∧
    (∀ c, b.linkState p = .config → reached b.timeBase (after x.training.lastConfig 10) = true →
      x.training.sentConfig = some c →
      exec (.configRepeat p) s = .next { s with
        bridge := b.setPort p { x with
          training := { x.training with lastConfig := b.timeBase },
          out := x.out ++
            (match x.training.sentAck with | none => [] | some n => [⟨.flit (.ack n), x.training.usable⟩]) ++
            [⟨.flit (.config c), x.training.usable⟩] } }) ∧
    (b.linkState p = .waking → reached b.timeBase (after x.training.lastWake 10) = true →
      exec (.wakeRepeat p) s = .next { s with
        bridge := b.setPort p { x with
          training := { x.training with lastWake := b.timeBase },
          out := x.out ++ [⟨.flit .wake, x.record.width⟩] } }) ∧
    (let attempting := b.linkState p = .training ∨ b.linkState p = .config
     let passed := reached b.timeBase (after x.record.attemptStart 2000)
     (attempting → passed = true →
       ∃ t, exec (.attemptBoundPasses p) s = .next t ∧ t.pending = s.pending ∧
         (t.bridge.port p).record.attempts = x.record.attempts + 1 ∧
         t.bridge.linkState p = (if x.record.attempts < 2 then .training else .down)) ∧
     (¬attempting ∨ passed = false → exec (.attemptBoundPasses p) s = .next s)) ∧
    (let passed := reached b.timeBase (after x.training.wakeStart 2000)
     (b.linkState p = .waking → passed = true →
       ∃ t, exec (.wakeBoundPasses p) s = .next t ∧ t.pending = s.pending ∧ t.bridge.linkState p = .training ∧
         (t.bridge.port p).record.cause = .wakeTimeout) ∧
     (b.linkState p ≠ .waking ∨ passed = false → exec (.wakeBoundPasses p) s = .next s))

/-! ### Sending -/

/-- A class is eligible when its head stands in the queue, the held credits cover it, it is not ordered-blocked and
the port is ACTIVE; a send opportunity needs ACTIVE, no replay and a free replay entry. The arbiter's winner is the
eligible class with the smallest current priority, the first of Reply, Stream, Query among equals; the winner returns
to its start priority, the other eligible classes fall by one and not below 0, and an ineligible class keeps its
value. -/
def Obligations.ArbiterPicksByAging : Prop :=
  ∀ (b : Bridge) (p : Port),
    let cur := (b.port p).egress.current
    let rank : Cls → Nat := fun c => match c with | .reply => 0 | .stream => 1 | .query => 2
    (∀ c, b.eligible p c = true ↔ ∃ x rest, b.queue p c = x :: rest ∧
      1 ≤ ((b.port p).credit.get c).held.headers ∧ (x.pkt.blocks.toNat : Int) ≤ ((b.port p).credit.get c).held.blocks ∧
      ¬(c ≠ .stream ∧ x.pkt.ordered = true ∧ ∃ y ∈ b.queue p .stream, y.stamp < x.stamp) ∧ b.linkState p = .active) ∧
    (b.sendOpportunity p = true ↔
      b.linkState p = .active ∧ (b.port p).send.replayPos = none ∧ (b.port p).send.buffer.length < 32) ∧
    (b.winner p = none ↔ ∀ c, b.eligible p c = false) ∧
    (∀ w, b.winner p = some w → b.eligible p w = true ∧
      (∀ c, b.eligible p c = true → cur.get w < cur.get c ∨ (cur.get w = cur.get c ∧ rank w ≤ rank c)) ∧
      (b.aged p w).get w = (b.port p).egress.start.get w ∧
      (∀ c, c ≠ w → b.eligible p c = true → (b.aged p w).get c = cur.get c - 1) ∧
      (∀ c, c ≠ w → b.eligible p c = false → (b.aged p w).get c = cur.get c))

/-- An arbiter decision sends the due flits first, the NAK alone where a NAK and an ACK are due and an answer and a
CREDIT flit in either order (the model's choice, log 11). With no flit due it removes the winner's head, spends its
credit, frames it with the next sequence number, keeps it for replay and sends it; a marked query's position goes from
QUEUED to SENT, and the end of a quarantine is set afresh. Where the queue was full, the freed place is offered in the
same event, and the first waiting pusher by Table 5-2 that can use it takes it: a RETURNING entry, a management reply,
a PENDING line, then the Forwarding Engines' heads and bypass candidates whose needs are all present; a head or
candidate is taken as by the row of its kind. Where a RETURNING entry takes it and goes FREE, that all its DONE brings
about comes before the DONE OK of a WINDOW_RETIRE its window answers is the model's choice (log 31). -/
def Obligations.ArbiterSendsHead : Prop :=
  (∀ (b : Bridge) (p : Port) (c : Cls),
    let engineFirst := [PoolPos.mk p.other .reply 0, ⟨p.other, .stream, 0⟩, ⟨p.other, .query, 0⟩] ++
      (candidate? b p.other).toList.map (PoolPos.mk p.other .query) ++ [⟨p, .stream, 0⟩, ⟨p, .query, 0⟩] ++
      (candidate? b p).toList.map (PoolPos.mk p .query)
    let usable := fun q : PoolPos =>
      match (b.pool q.port q.cls)[q.index]? with
      | none => false
      | some k => (routeOf b q.port k).uses.contains (p, c) && (routeOf b q.port k).ready b
    let returning := c = .reply ∧ ∃ e, (b.entry p.dir e).state = .returning
    let replying := c = .reply ∧ ∃ r ∈ b.engine.waiting, r.port = p
    let notifying := c = .stream ∧ p = .root ∧ ∃ i, (b.line i).state = .pending
    (∀ e status, c = .reply → (b.entry p.dir e).state = .returning → (b.entry p.dir e).owed = some status →
      (∀ e', (b.entry p.dir e').state = .returning → e ≤ e') →
      let x := b.entry p.dir e
      let sent := push (Push.plain p (donePacket b.unit x.reqUnit x.reqTag status)) b
      admitFirst p c b = some
        (if x.replySeen = true ∨ x.pos = .cleared then freeEntry p.dir e sent
         else sent.setEntry p.dir e { x with
           state := .quarantine, owed := none, replySeen := false,
           quarEnd := b.timeBase + BitVec.ofNat 32 (1000 * b.quarantineMs) })) ∧
    (∀ (older newer : List MgmtReply) (r : MgmtReply), c = .reply → ¬returning →
      b.engine.waiting = older ++ r :: newer → (∀ o ∈ older, o.port ≠ p) → r.port = p →
      admitFirst p c b = some
        (push { port := p, cls := .reply, pkt := r.pkt, mark := none, wakes := true } (b.onEngine fun e =>
          { e with waiting := older ++ newer, queue := if r.immediate then e.queue.tail else e.queue }))) ∧
    (∀ i, c = .stream → p = .root → (b.line i).state = .pending → (∀ j, (b.line j).state = .pending → i ≤ j) →
      admitFirst p c b = some
        (push (Push.plain .root (notificationPut b.unit (b.line i)))
          (b.setLine i { b.line i with state := .outstanding }))) ∧
    (¬returning → ¬replying → ¬notifying →
      admitFirst p c b = (engineFirst.find? usable).map fun q => takeAt q.port q.cls q.index b)) ∧
  (∀ (p : Port) (c : Cls) (k : Packet) (rest : List Packet) (s : State), running s →
    s.bridge.pool p c = k :: rest → k.cls = c →
    let taken := Host.Outcome.next { s with bridge := takeAt p c 0 s.bridge }
    (malformed p k = true → exec (.takeMalformed p c) s = taken) ∧
    (malformed p k = false →
      (k.kind = .put → exec (.takePut p) s = taken) ∧
      (k.kind = .get ∨ k.kind = .set → exec (.takeGetSet p) s = taken) ∧
      (k.kind = .manage → exec (.takeManage p) s = taken) ∧ (k.kind = .signal → exec .takeSignal s = taken) ∧
      (k.kind = .data ∨ k.kind = .done → exec (.takeReply p) s = taken))) ∧
  (∀ (p : Port) (i : Nat) (s : State), running s → candidate? s.bridge p = some i →
    exec (.managementBypass p) s = .next { s with bridge := takeAt p .query i s.bridge }) ∧
  (∀ (p : Port) (s : State), running s → s.bridge.sendOpportunity p = false ∨ s.bridge.winner p = none →
    exec (.arbiterDecision p) s = .next s) ∧
  ∀ (p : Port) (c : Cls) (x : Queued) (rest : List Queued) (s : State), running s →
    let b := s.bridge
    let q := b.port p
    b.sendOpportunity p = true → b.winner p = some c → b.queue p c = x :: rest →
    DueFlitsGoFirst p (.arbiterDecision p) s ∧ (
    q.recv.nakDue = false → q.recv.ackDue = false → b.creditDue p = false →
    let sent := b.setPort p { q with
      egress := { q.egress with queues := q.egress.queues.set c rest, current := b.aged p c },
      credit := q.credit.set c { q.credit.get c with
        held := ⟨(q.credit.get c).held.headers - 1, (q.credit.get c).held.blocks - x.pkt.blocks.toNat⟩ },
      send := { q.send with
        nextSeq := q.send.nextSeq + 1, buffer := q.send.buffer ++ [frame q.send.nextSeq x.pkt],
        timerStart := if q.send.buffer = [] then some b.timeBase else q.send.timerStart },
      out := q.out ++ [⟨.packet (frame q.send.nextSeq x.pkt), q.record.width⟩] }
    let left := match x.mark with
      | none => sent
      | some m =>
        let e := b.entry m.table m.entry
        if e.state ≠ .free ∧ e.pos = .queued then
          sent.setEntry m.table m.entry { e with
            pos := .sent,
            quarEnd := if e.state = .quarantine then b.timeBase + BitVec.ofNat 32 (1000 * b.quarantineMs)
              else e.quarEnd }
        else sent
    ((b.queue p c).length < 32 → exec (.arbiterDecision p) s = .next { s with bridge := left }) ∧
    ((b.queue p c).length = 32 →
      exec (.arbiterDecision p) s = .next { s with bridge := (admitFirst p c left).getD left }))

/-- A Query or Reply packet with its ordered flag set never wins a decision while an older Stream packet is queued at
the port. -/
def Obligations.OrderedPacketWaitsForStream : Prop :=
  ∀ (b : Bridge) (p : Port) (c : Cls) (x y : Queued) (rest : List Queued),
    b.winner p = some c → b.queue p c = x :: rest → c ≠ .stream → x.pkt.ordered = true → y ∈ b.queue p .stream →
    x.stamp ≤ y.stamp

/-- A replay resends the entry at its position as first framed, spends no credit, and ends after the newest entry with
the timer started. The due flits go ahead of it, the NAK alone where a NAK and an ACK are due and an answer and a CREDIT
flit in either order (the model's choice, log 11). -/
def Obligations.ReplayResendsEntry : Prop :=
  (∀ (p : Port) (s : State), running s → s.bridge.isActive p = false ∨ (s.bridge.port p).send.replayPos = none →
    exec (.replayResend p) s = .next s) ∧
  ∀ (p : Port) (i : Nat) (f : Framed) (s : State), running s →
    let b := s.bridge
    let x := b.port p
    b.isActive p = true → x.send.replayPos = some i → x.send.buffer[i]? = some f →
    DueFlitsGoFirst p (.replayResend p) s ∧
    (x.recv.nakDue = false → x.recv.ackDue = false → b.creditDue p = false →
    exec (.replayResend p) s = .next { s with
      bridge := b.setPort p { x with
        out := x.out ++ [⟨.packet f, x.record.width⟩],
        send := if i + 1 < x.send.buffer.length then { x.send with replayPos := some (i + 1) }
          else { x.send with replayPos := none, timerStart := some b.timeBase } } })

/-- In ACTIVE a passed 2 µs bound makes an ACK due; a due ACK, a due NAK and freed credit are sent, each with its effect
on the receive side alone. Freed credit is due when a class has freed headers or blocks. -/
def Obligations.DueFlitsAreSent : Prop :=
  (∀ (b : Bridge) (p : Port), b.creditDue p = true ↔
    ∃ c, 0 < (b.account p c).freed.headers ∨ 0 < (b.account p c).freed.blocks) ∧
  ∀ (p : Port) (s : State), running s →
    let b := s.bridge
    let x := b.port p
    b.isActive p = true →
    (∀ bound, x.recv.ackBound = some bound → reached b.timeBase bound = true →
      exec (.ackBoundPasses p) s = .next { s with
        bridge := b.setPort p { x with recv := { x.recv with ackDue := true } } }) ∧
    (x.recv.ackDue = true →
      exec (.ackSent p) s = .next { s with
        bridge := b.setPort p { x with
          out := x.out ++ [⟨.flit (.ack (x.recv.expected - 1)), x.record.width⟩],
          recv := { x.recv with unacked := 0, ackBound := none, ackDue := false } } }) ∧
    (x.recv.nakDue = true →
      exec (.nakSent p) s = .next { s with
        bridge := b.setPort p { x with
          out := x.out ++ [⟨.flit (.nak x.recv.expected), x.record.width⟩],
          recv := { x.recv with
            nakOutstanding := true, unacked := 0, ackBound := none, nakDue := false, ackDue := false } } }) ∧
    (b.creditDue p = true →
      ∃ account : PerClass RxAccount,
        exec (.creditFlitSent p) s = .next { s with
          bridge := b.setPort p { x with
            ingress := { x.ingress with account := account, lastCredit := b.timeBase },
            out := x.out ++ [⟨.flit (.credit (account.map RxAccount.returns)), x.record.width⟩] } } ∧
        ∀ c, account.get c =
          { occupied := (b.account p c).occupied, allowance := (b.account p c).allowance, freed := ⟨0, 0⟩,
            outstanding :=
              ⟨(b.account p c).outstanding.headers + (b.account p c).freed.headers,
                (b.account p c).outstanding.blocks + (b.account p c).freed.blocks⟩,
            returns :=
              ⟨(b.account p c).returns.headers + BitVec.ofNat 8 (b.account p c).freed.headers,
                (b.account p c).returns.blocks + BitVec.ofNat 8 (b.account p c).freed.blocks⟩ })

/-! ### Windows -/

/-- A lookup answers the lowest-numbered LIVE slot of the direction whose range holds the address, and a miss when
there is none. An access through a window leaves at its target base plus the offset, or at its own address where there
is none; a unit is a member of a group by its bit of the group's set. Downbound is from Root to Leaf, Upbound from Leaf
to Root. -/
def Obligations.LookupTakesLowestSlot : Prop :=
  (Port.root.dir = .down ∧ Port.leaf.dir = .up ∧ Port.root.other = .leaf ∧ Port.leaf.other = .root ∧
    ∀ p : Port, p.dir.requesterPort = p ∧ p.dir.farPort = p.other ∧ p.replyTable = p.other.dir) ∧
  ∀ (b : Bridge) (d : Dir) (a : Addr),
    let hit := fun i : Fin 32 => (b.slot i).state = .live ∧ (b.slot i).window.direction = d ∧
      (b.slot i).window.base.toNat ≤ a.toNat ∧
      a.toNat < (b.slot i).window.base.toNat + 2 ^ (b.slot i).window.sizeExp.toNat
    (∀ i, b.lookup d a = some i ↔ hit i ∧ ∀ j, hit j → i ≤ j) ∧ (b.lookup d a = none ↔ ∀ i, ¬hit i) ∧
    (∀ w : WindowRecord, w.translation = none → w.translate a = a) ∧
    (∀ (w : WindowRecord) (t : Addr), w.translation = some t → w.translate a = t + (a - w.base)) ∧
    ∀ (u : UnitNo) (g : Fin 8), b.member u g = b.groups[g].getLsbD u.toNat

/-! ### Forwarding -/

/-- A well-formed PUT at the head of its Stream pool: forwarded through a window or under PASS, reflected, discarded
with its record, each when its queue has a place. The packet taken leaves its pool, and its cost moves from occupied to
freed. -/
def Obligations.TakePutRoutes : Prop :=
  (∀ (p : Port) (c : Cls) (i : Nat) (k : Packet) (b : Bridge),
    let x := b.port p
    let a := b.account p c
    removePacket p c i k b = b.setPort p { x with
      ingress := { x.ingress with
        pools := x.ingress.pools.set c ((b.pool p c).eraseIdx i),
        account := x.ingress.account.set c { a with
          occupied := ⟨a.occupied.headers - 1, a.occupied.blocks - k.blocks.toNat⟩,
          freed := ⟨a.freed.headers + 1, a.freed.blocks + k.blocks.toNat⟩ } } }) ∧
  ∀ (p : Port) (k : Packet) (rest : List Packet) (s : State), running s →
    let b := s.bridge
    b.pool p .stream = k :: rest → k.kind = .put → malformed p k = false →
    let done := fun b' : Bridge => exec (.takePut p) s = .next { s with bridge := removePacket p .stream 0 k b' }
    let forward := fun a : Addr =>
      (b.isDown p.other = false → b.hasRoom p.other .stream = true →
        done (push (Push.plain p.other { k with addr := a }) b)) ∧
      (b.isDown p.other = true →
        done (raise { bareRecord .discarded p.other b.timeBase with
          src := some k.src, addr := some k.addr, count := some 1 } b)) ∧
      (b.isDown p.other = false → b.hasRoom p.other .stream = false → exec (.takePut p) s = .next s)
    (∀ i, b.lookup p.dir k.addr = some i → b.member k.src (b.slot i).window.group = true →
      (b.slot i).window.writeAllowed = true → forward ((b.slot i).window.translate k.addr)) ∧
    (∀ i, b.lookup p.dir k.addr = some i →
      b.member k.src (b.slot i).window.group = false ∨ (b.slot i).window.writeAllowed = false →
      done (raise { bareRecord .accessDenied p b.timeBase with
        src := some k.src, addr := some k.addr, slot := some i } b)) ∧
    (b.lookup p.dir k.addr = none → b.miss.get p.dir = .pass → forward k.addr) ∧
    (b.lookup p.dir k.addr = none → b.miss.get p.dir = .reflect → b.hasPlace p .stream = true →
      done (push (Push.plain p k) b)) ∧
    (b.lookup p.dir k.addr = none → b.miss.get p.dir = .reject →
      done (raise { bareRecord .noWindow p b.timeBase with src := some k.src, addr := some k.addr } b))

/-- A well-formed GET or SET at the head of its Query pool that hits a window: denied, declined as speculative,
answered early, or forwarded through the lowest FREE entry with the bridge unit as source and the entry as tag. A DONE
carries the bridge unit, the query's unit and tag, and the status. An early acknowledge puts its PUT and its DONE into
their queues, the newest there, each with its port's next stamp, and makes the drains of both ports fail; at a DOWN
ingress port the DONE is discarded instead. That both places of an early acknowledge are taken before their effects is
an inference of the model (log 30); that the PUT's effects come before the DONE's, and a DONE's effects (DISCARDED at a
DOWN ingress port, a failing drain) before ACCESS_DENIED, is the model's choice (log 31). -/
def Obligations.TakeGetSetThroughWindow : Prop :=
  (∀ (x y : Push) (b : Bridge), y.port = x.port.other → b.isDown x.port = false →
    let t := pushBoth x y b
    let entered := fun z : Push => ∃ formed, t.queue z.port z.cls = b.queue z.port z.cls ++
      { pkt := z.pkt, stamp := (b.port z.port).egress.admissions, mark := z.mark } :: formed
    let lost := lostPacket b y.port y.pkt.src
      (if y.pkt.kind = .put ∨ y.pkt.kind = .get ∨ y.pkt.kind = .set then some y.pkt.addr else none)
      (if y.pkt.kind = .get ∨ y.pkt.kind = .set ∨ y.pkt.kind = .data ∨ y.pkt.kind = .done then some y.pkt.tag else none)
      (if y.pkt.kind = .done then some y.pkt.status else none)
    entered x ∧ (b.isDown y.port = false → entered y) ∧
    (b.isDown y.port = true → RecordRaised b t lost ∧ ∀ c, t.queue y.port c = b.queue y.port c) ∧
    (noDrain b x.port → noDrain b y.port → b.isDown y.port = false → t = push y (push x b)) ∧
    (noDrain b x.port → b.isDown y.port = true → t = raise lost (push x b)) ∧
    ∀ (q : Port) (d : Deferred) (bound : Time), b.isDown q = false →
      b.engine.deferred.filter (·.parks q) = [d] → d.op = .park q bound →
      noDrain t q ∧
        ReplyGiven b t { port := d.port, pkt := replyPacket b.unit d.src d.tag 11 .busy [], immediate := false }) ∧
  (∀ (bridge dst : UnitNo) (tag : Tag) (status : Status), donePacket bridge dst tag status =
    { kind := .done, ordered := false, speculative := false, blocks := 0, src := bridge, dst := dst, tag := tag,
      addr := 0, len := 0, info := status.code.zeroExtend 8, payload := [] }) ∧
  (∀ (b : Bridge) (d : Dir),
    (∀ e, b.freeEntry? d = some e ↔ (b.entry d e).state = .free ∧ ∀ j, (b.entry d j).state = .free → e ≤ j) ∧
    (b.freeEntry? d = none ↔ ∀ e, (b.entry d e).state ≠ .free)) ∧
  ∀ (p : Port) (k : Packet) (rest : List Packet) (i : Fin 32) (s : State), running s →
    let b := s.bridge
    b.pool p .query = k :: rest → k.kind = .get ∨ k.kind = .set → malformed p k = false →
    b.lookup p.dir k.addr = some i →
    let w := (b.slot i).window
    let permitted := b.member k.src w.group && (if k.kind == .get then w.readAllowed else w.writeAllowed)
    let speculates := k.kind == .get && k.speculative && !w.specAllowed
    let finish := fun b' : Bridge => exec (.takeGetSet p) s = .next { s with bridge := removePacket p .query 0 k b' }
    let answer := fun (status : Status) => push (Push.plain p (donePacket b.unit k.src k.tag status)) b
    (permitted = false → b.hasPlace p .reply = true →
      finish (raise { bareRecord .accessDenied p b.timeBase with
        src := some k.src, addr := some k.addr, tag := some k.tag, slot := some i, status := some 3 } (answer .denied))) ∧
    (permitted = true → speculates = true → b.hasPlace p .reply = true → finish (answer .declined)) ∧
    (permitted = true → speculates = false → b.isDown p.other = true → b.hasPlace p .reply = true →
      finish (answer .linkDown)) ∧
    (permitted = true → k.kind = .set → w.earlyAck = true → b.isDown p.other = false →
      b.hasRoom p.other .stream = true → b.hasPlace p .reply = true →
      finish (pushBoth (Push.plain p.other { k with kind := .put, addr := w.translate k.addr })
        (Push.plain p (donePacket b.unit k.src k.tag .ok)) b)) ∧
    (∀ e, permitted = true → speculates = false → ¬(k.kind = .set ∧ w.earlyAck = true) → b.isDown p.other = false →
      b.hasRoom p.other .query = true → b.freeEntry? p.dir = some e →
      finish (push
        { port := p.other, cls := .query, mark := some { table := p.dir, entry := e }, wakes := true,
          pkt := { k with addr := w.translate k.addr, src := b.unit, tag := BitVec.ofNat 8 e.val } }
        ((b.setEntry p.dir e
          { state := .waiting, pos := .queued, reqUnit := k.src, reqTag := k.tag,
            kind := if k.kind = .set then .set else .get, slot := some i,
            reqBlocks := if k.kind = .get then blocksOf k.length else 0, delivered := 0,
            nextPart := if k.kind = .get then some 0 else none,
            deadline := b.timeBase + BitVec.ofNat 32 (1000 * b.deadlineMs), owed := none, replySeen := false,
            quarEnd := 0 }).setSlot i { b.slot i with inflight := (b.slot i).inflight + 1 })))

/-- A well-formed GET or SET that misses: forwarded untranslated under PASS with no window reference, reflected under
REFLECT, answered NO_TARGET under REJECT. The entry a query is given is WAITING and QUEUED, with the requester's unit
and tag, and for a GET the blocks it asks for and part 0 expected. That the DONE's effects (DISCARDED at a DOWN
ingress port, a failing drain) come before NO_WINDOW is the model's choice (log 31). -/
def Obligations.TakeGetSetOnMiss : Prop :=
  (∀ (k : Packet) (slot : Option (Fin 32)) (deadline : Time), Entry.allocated k slot deadline =
    { state := .waiting, pos := .queued, reqUnit := k.src, reqTag := k.tag,
      kind := if k.kind = .set then .set else if k.kind = .manage then .manage else .get, slot := slot,
      reqBlocks := if k.kind = .get then (k.len.toNat + 1 + 63) / 64 else 0, delivered := 0,
      nextPart := if k.kind = .get then some 0 else none, deadline := deadline, owed := none, replySeen := false,
      quarEnd := 0 }) ∧
  ∀ (p : Port) (k : Packet) (rest : List Packet) (s : State), running s →
    let b := s.bridge
    b.pool p .query = k :: rest → k.kind = .get ∨ k.kind = .set → malformed p k = false →
    b.lookup p.dir k.addr = none →
    let finish := fun b' : Bridge => exec (.takeGetSet p) s = .next { s with bridge := removePacket p .query 0 k b' }
    (b.miss.get p.dir = .pass → b.isDown p.other = true → b.hasPlace p .reply = true →
      finish (push (Push.plain p (donePacket b.unit k.src k.tag .linkDown)) b)) ∧
    (∀ e, b.miss.get p.dir = .pass → b.isDown p.other = false → b.hasRoom p.other .query = true →
      b.freeEntry? p.dir = some e →
      finish (push
        { port := p.other, cls := .query, mark := some { table := p.dir, entry := e }, wakes := true,
          pkt := { k with src := b.unit, tag := BitVec.ofNat 8 e.val } }
        (b.setEntry p.dir e (Entry.allocated k none (b.timeBase + BitVec.ofNat 32 (1000 * b.deadlineMs)))))) ∧
    (b.miss.get p.dir = .reflect → b.hasPlace p .query = true → finish (push (Push.plain p k) b)) ∧
    (b.miss.get p.dir = .reject → b.hasPlace p .reply = true →
      finish (raise { bareRecord .noWindow p b.timeBase with
          src := some k.src, addr := some k.addr, tag := some k.tag, status := some 4 }
        (push (Push.plain p (donePacket b.unit k.src k.tag .noTarget)) b)))

/-- A well-formed MANAGE: one for the bridge unit enters the command queue from the head or as the bypass candidate,
or is DENIED at a closed Leaf; one for another unit is forwarded through a Query entry, or answered LINK_DOWN. A
packet can proceed when everything its route needs is present together (`needs`), and is not taken otherwise. The
bypass candidate is the oldest MANAGE for the bridge unit behind the head of a Query pool that cannot proceed; like a
head it enters the command queue or is DENIED at a closed Leaf, and a malformed one is discarded and needs nothing.
That the DONE's effects (DISCARDED at a DOWN Leaf, a failing drain) come before ACCESS_DENIED is the model's choice
(log 31). -/
def Obligations.TakeManageRoutes : Prop :=
  (∀ (b : Bridge) (p : Port) (k : Packet),
    ((routeOf b p k).ready b = true ↔ ∀ n ∈ needs b p k, n.present b) ∧
    ∀ q c, (q, c) ∈ (routeOf b p k).uses ↔ Need.place q c ∈ needs b p k) ∧
  (∀ (b : Bridge) (p : Port) (c : Cls) (i : Nat) (k : Packet), (b.pool p c)[i]? = some k →
    (∃ n ∈ needs b p k, ¬n.present b) → takeAt p c i b = b) ∧
  (∀ (b : Bridge) (p : Port) (i : Nat), candidate? b p = some i ↔
    ∃ head behind, b.pool p .query = head :: behind ∧ (∃ n ∈ needs b p head, ¬n.present b) ∧ 1 ≤ i ∧
      (∃ k, behind[i - 1]? = some k ∧ k.kind = .manage ∧ k.dst = b.unit) ∧
      ∀ j k, j < i - 1 → behind[j]? = some k → k.kind ≠ .manage ∨ k.dst ≠ b.unit) ∧
  ∀ (p : Port) (k : Packet) (rest : List Packet) (s : State), running s →
    let b := s.bridge
    let command := fun k : Packet =>
      ({ port := p, src := k.src, tag := k.tag, code := k.command, blocks := k.blocks.toNat,
         payload := k.payload } : Command)
    let handOver := fun k : Packet => b.onEngine fun e => { e with queue := e.queue ++ [command k] }
    (b.pool p .query = k :: rest → k.kind = .manage → malformed p k = false → k.dst = b.unit →
      p = .root ∨ b.engine.leafOpen = true → b.engine.queue.length < 8 →
      exec (.takeManage p) s = .next { s with bridge := removePacket p .query 0 k (handOver k) }) ∧
    (b.pool p .query = k :: rest → k.kind = .manage → malformed p k = false → k.dst = b.unit →
      p = .leaf → b.engine.leafOpen = false → b.hasPlace p .reply = true →
      exec (.takeManage p) s = .next { s with
        bridge := removePacket p .query 0 k (raise
          { bareRecord .accessDenied p b.timeBase with src := some k.src, tag := some k.tag, status := some 3 }
          (push (Push.plain p (donePacket b.unit k.src k.tag .denied)) b)) }) ∧
    (∀ e, b.pool p .query = k :: rest → k.kind = .manage → malformed p k = false → k.dst ≠ b.unit →
      b.isDown p.other = false → b.hasRoom p.other .query = true → b.freeEntry? p.dir = some e →
      exec (.takeManage p) s = .next { s with
        bridge := removePacket p .query 0 k (push
          { port := p.other, cls := .query, mark := some { table := p.dir, entry := e }, wakes := true,
            pkt := { k with src := b.unit, tag := BitVec.ofNat 8 e.val } }
          (b.setEntry p.dir e (Entry.allocated k none (b.timeBase + BitVec.ofNat 32 (1000 * b.deadlineMs))))) }) ∧
    (b.pool p .query = k :: rest → k.kind = .manage → malformed p k = false → k.dst ≠ b.unit →
      b.isDown p.other = true → b.hasPlace p .reply = true →
      exec (.takeManage p) s = .next { s with
        bridge := removePacket p .query 0 k (push (Push.plain p (donePacket b.unit k.src k.tag .linkDown)) b) }) ∧
    (∀ (i : Nat) (c : Packet), candidate? b p = some i → (b.pool p .query)[i]? = some c → malformed p c = false →
      p = .root ∨ b.engine.leafOpen = true → b.engine.queue.length < 8 →
      exec (.managementBypass p) s = .next { s with bridge := removePacket p .query i c (handOver c) }) ∧
    (∀ (i : Nat) (c : Packet), candidate? b p = some i → (b.pool p .query)[i]? = some c → malformed p c = false →
      p = .leaf → b.engine.leafOpen = false → b.hasPlace p .reply = true →
      exec (.managementBypass p) s = .next { s with
        bridge := removePacket p .query i c (raise
          { bareRecord .accessDenied p b.timeBase with src := some c.src, tag := some c.tag, status := some 3 }
          (push (Push.plain p (donePacket b.unit c.src c.tag .denied)) b)) }) ∧
    (∀ (i : Nat) (c : Packet), candidate? b p = some i → (b.pool p .query)[i]? = some c → malformed p c = true →
      exec (.managementBypass p) s = .next { s with
        bridge := removePacket p .query i c
          (raise { bareRecord .malformed p b.timeBase with src := some c.src, tag := some c.tag } b) })

/-- A SIGNAL at the head of the Leaf Stream pool sets its line's level: an assert records its unit and makes an IDLE
line whose notify condition holds notify, a deassert returns a PENDING line to IDLE. -/
def Obligations.TakeSignalSetsLevel : Prop :=
  ∀ (k : Packet) (rest : List Packet) (s : State), running s →
    let b := s.bridge
    b.pool .leaf .stream = k :: rest → k.kind = .signal → malformed .leaf k = false →
    let l := b.line k.line
    let finish := fun b' : Bridge => exec .takeSignal s = .next { s with bridge := removePacket .leaf .stream 0 k b' }
    let up := { l with level := true, lastUnit := some k.src }
    (k.topInfo = true → l.state = .idle → l.enabled = true → l.masked = false →
      finish (notify k.line (b.setLine k.line up))) ∧
    (k.topInfo = true → l.state ≠ .idle ∨ l.enabled = false ∨ l.masked = true → finish (b.setLine k.line up)) ∧
    (k.topInfo = false → l.state = .pending → finish (b.setLine k.line { l with level := false, state := .idle })) ∧
    (k.topInfo = false → l.state ≠ .pending → finish (b.setLine k.line { l with level := false }))

/-- A DATA or DONE at the head of its Reply pool: a good reply is restored and forwarded and advances or frees its
entry; a bad reply makes a WAITING entry owe DONE FAILED; a reply to a RETURNING or QUARANTINE entry is late; one that
names no entry, or an entry that is FREE or whose query is not SENT, is stray. A reply is good by the entry's kind and
record: the next part of a GET within its requested length, or exactly filling it when marked last; a DONE without
payload for a GET or a SET; any DONE for a MANAGE. Where an entry goes FREE, that what its pushed reply brings about
comes before the DONE OK of a WINDOW_RETIRE its window answers, and that one's effects before LATE_REPLY, is the
model's choice (log 31). -/
def Obligations.TakeReplyByEntry : Prop :=
  (∀ (x : Entry) (k : Packet), goodReply x k = true ↔
    (x.kind = .get ∧ k.kind = .data ∧ x.nextPart = some k.part ∧
      (k.topInfo = false → x.delivered + k.blocks.toNat ≤ x.reqBlocks) ∧
      (k.topInfo = true → x.delivered + k.blocks.toNat = x.reqBlocks)) ∨
    ((x.kind = .get ∨ x.kind = .set) ∧ k.kind = .done ∧ k.blocks = 0) ∨ (x.kind = .manage ∧ k.kind = .done)) ∧
  ∀ (p : Port) (k : Packet) (rest : List Packet) (s : State), running s →
    let b := s.bridge
    let d := p.replyTable
    b.pool p .reply = k :: rest → k.kind = .data ∨ k.kind = .done → malformed p k = false →
    let finish := fun b' : Bridge => exec (.takeReply p) s = .next { s with bridge := removePacket p .reply 0 k b' }
    let status := if k.kind = .done then some k.status else none
    let late := fun x : Entry => { bareRecord .lateReply p b.timeBase with
      src := some k.src, tag := some k.tag, slot := x.slot, status := status }
    (∀ e : Fin 64, k.dst = b.unit → k.tag.toNat = e.val →
      let x := b.entry d e
      let sent := push (Push.plain d.requesterPort { k with dst := x.reqUnit, tag := x.reqTag }) b
      (x.state = .waiting → x.pos = .sent → goodReply x k = true → b.hasPlace d.requesterPort .reply = true →
        k.final = true → finish (freeEntry d e sent)) ∧
      (x.state = .waiting → x.pos = .sent → goodReply x k = true → b.hasPlace d.requesterPort .reply = true →
        k.final = false → finish (sent.setEntry d e { x with
          delivered := x.delivered + k.blocks.toNat,
          nextPart := if h : k.part.val + 1 < 4 then some ⟨k.part.val + 1, h⟩ else none })) ∧
      (x.state = .waiting → x.pos = .sent → goodReply x k = false →
        finish (raise { bareRecord .malformed p b.timeBase with
            src := some k.src, tag := some k.tag, slot := x.slot, status := some 1 }
          (b.setEntry d e { x with state := .returning, owed := some .failed, replySeen := false }))) ∧
      (x.state = .returning → x.pos = .sent →
        finish (raise (late x) (b.setEntry d e { x with replySeen := x.replySeen || k.final }))) ∧
      (x.state = .quarantine → x.pos = .sent → k.final = true → finish (raise (late x) (freeEntry d e b))) ∧
      (x.state = .quarantine → x.pos = .sent → k.final = false → finish (raise (late x) b)) ∧
      (x.state = .free ∨ x.pos ≠ .sent →
        finish (raise { bareRecord .strayReply p b.timeBase with
          src := some k.src, tag := some k.tag, status := status } b))) ∧
    (k.dst ≠ b.unit ∨ 64 ≤ k.tag.toNat →
      finish (raise { bareRecord .strayReply p b.timeBase with
        src := some k.src, tag := some k.tag, status := status } b))

/-- A malformed packet at the head of a pool: a GET or SET is answered DONE MALFORMED, every other one is discarded,
with one MALFORMED record; a malformed reply is reported to the entry it names, as a bad reply without a second
record. A packet is malformed when it breaks a row of Table 1-4. That the effects of the DONE, and of the DONE OK of a
WINDOW_RETIRE that a freed entry ends, come before MALFORMED is the model's choice (log 31). -/
def Obligations.TakeMalformedDiscards : Prop :=
  (∀ (p : Port) (k : Packet), malformed p k = true ↔
    k.kind = .none7 ∨ 4 < k.blocks.toNat ∨ (k.kind ≠ .get ∧ k.speculative = true) ∨
    ((k.kind = .put ∨ k.kind = .set) ∧ k.blocks.toNat ≠ (k.len.toNat + 1 + 63) / 64) ∨
    (k.kind = .get ∧ k.blocks ≠ 0) ∨
    ((k.kind = .put ∨ k.kind = .get ∨ k.kind = .set) ∧ 4096 < k.addr.toNat % 4096 + (k.len.toNat + 1)) ∨
    (k.kind = .signal ∧ (k.blocks ≠ 0 ∨ p = .root ∨ k.line = 0)) ∨ (k.kind = .data ∧ k.blocks = 0) ∨
    (k.kind = .done ∧ 10 < k.status.toNat)) ∧
  (∀ (d : Dir) (e : Fin 64) (final : Bool) (b : Bridge),
    let x := b.entry d e
    (x.state = .waiting → x.pos = .sent → takeNotice d e final b =
      b.setEntry d e { x with state := .returning, owed := some .failed, replySeen := false }) ∧
    (x.state = .returning → x.pos = .sent → takeNotice d e final b =
      b.setEntry d e { x with replySeen := x.replySeen || final }) ∧
    (x.state = .quarantine → x.pos = .sent → final = true → takeNotice d e final b = freeEntry d e b) ∧
    (x.state = .quarantine → x.pos = .sent → final = false → takeNotice d e final b = b) ∧
    (x.state = .free ∨ x.pos ≠ .sent → takeNotice d e final b = b)) ∧
  ∀ (p : Port) (c : Cls) (k : Packet) (rest : List Packet) (s : State), running s →
    let b := s.bridge
    b.pool p c = k :: rest → malformed p k = true →
    let finish := fun b' : Bridge => exec (.takeMalformed p c) s = .next { s with bridge := removePacket p c 0 k b' }
    let record := { bareRecord .malformed p b.timeBase with src := some k.src }
    (k.kind = .get ∨ k.kind = .set → b.hasPlace p .reply = true →
      finish (raise { record with addr := some k.addr, tag := some k.tag, status := some 7 }
        (push (Push.plain p (donePacket b.unit k.src k.tag .malformed)) b))) ∧
    (k.kind = .put → finish (raise { record with addr := some k.addr } b)) ∧
    (k.kind = .signal ∨ k.kind = .none7 → finish (raise record b)) ∧
    (k.kind = .manage → finish (raise { record with tag := some k.tag } b)) ∧
    (k.kind = .data ∨ k.kind = .done → k.dst ≠ b.unit ∨ 64 ≤ k.tag.toNat →
      finish (raise { record with tag := some k.tag } b)) ∧
    (∀ e : Fin 64, k.kind = .data ∨ k.kind = .done → k.dst = b.unit → k.tag.toNat = e.val →
      finish (raise { record with tag := some k.tag } (takeNotice p.replyTable e k.final b)))

/-! ### The part's own pushers and timers -/

/-- A passed deadline makes a WAITING entry owe DONE TIMEOUT with a QUERY_TIMEOUT record; a passed quarantine end
frees a SENT entry with LOST_REPLY, sets a QUEUED entry's end afresh, and frees a CLEARED entry. That the effects of
the DONE OK of a WINDOW_RETIRE that the freed entry ends come before LOST_REPLY is the model's choice (log 31). -/
def Obligations.EntryTimersPass : Prop :=
  ∀ (d : Dir) (e : Fin 64) (s : State), running s →
    let b := s.bridge
    let x := b.entry d e
    let record := fun kind : RecordKind => { bareRecord kind d.farPort b.timeBase with
      src := some x.reqUnit, tag := some (BitVec.ofNat 8 e.val), slot := x.slot }
    (x.state = .waiting → reached b.timeBase x.deadline = true →
      exec (.deadlinePasses d e) s = .next { s with
        bridge := raise { record .queryTimeout with status := some 2 }
          (b.setEntry d e { x with state := .returning, owed := some .timeout, replySeen := false }) }) ∧
    (x.state = .quarantine → reached b.timeBase x.quarEnd = true → x.pos = .sent →
      exec (.quarantineEndPasses d e) s = .next { s with bridge := raise (record .lostReply) (freeEntry d e b) }) ∧
    (x.state = .quarantine → reached b.timeBase x.quarEnd = true → x.pos = .queued →
      exec (.quarantineEndPasses d e) s = .next { s with
        bridge := b.setEntry d e { x with quarEnd := b.timeBase + BitVec.ofNat 32 (1000 * b.quarantineMs) } }) ∧
    (x.state = .quarantine → reached b.timeBase x.quarEnd = true → x.pos = .cleared →
      exec (.quarantineEndPasses d e) s = .next { s with bridge := freeEntry d e b }) ∧
    (x.state ≠ .waiting → exec (.deadlinePasses d e) s = .next s) ∧
    (x.state ≠ .quarantine → exec (.quarantineEndPasses d e) s = .next s)

/-- An entry going FREE holds nothing, and its window loses one reference; a DRAINING window whose last reference goes
is FREE in the same event, and its listed WINDOW_RETIRE is answered DONE OK. -/
def Obligations.FreedEntryReleasesWindow : Prop :=
  (Entry.free =
    { state := .free, pos := .queued, reqUnit := 0, reqTag := 0, kind := .get, slot := none, reqBlocks := 0,
      delivered := 0, nextPart := none, deadline := 0, owed := none, replySeen := false, quarEnd := 0 } ∧
    Slot.free =
      { state := .free, inflight := 0,
        window :=
          { direction := .down, base := 0, sizeExp := 0, translation := none, readAllowed := false,
            writeAllowed := false, group := 0, earlyAck := false, specAllowed := false } }) ∧
  (∀ (d : Deferred) (i : Fin 32), d.retires i = true ↔ d.op = .retire i) ∧
  ∀ (d : Dir) (e : Fin 64) (b : Bridge),
    let freed := b.setEntry d e Entry.free
    ((b.entry d e).slot = none → freeEntry d e b = freed) ∧
    ∀ i : Fin 32, (b.entry d e).slot = some i →
      ((b.slot i).state ≠ .draining ∨ (b.slot i).inflight ≠ 1 →
        freeEntry d e b = freed.setSlot i { b.slot i with inflight := (b.slot i).inflight - 1 }) ∧
      ((b.slot i).state = .draining → (b.slot i).inflight = 1 → b.engine.deferred.find? (·.retires i) = none →
        freeEntry d e b = freed.setSlot i Slot.free) ∧
      ∀ c, (b.slot i).state = .draining → (b.slot i).inflight = 1 → b.engine.deferred.find? (·.retires i) = some c →
        c.op = .retire i →
        freeEntry d e b = deliver
          { port := c.port, pkt := replyPacket b.unit c.src c.tag 26 .ok [], immediate := false }
          ((freed.setSlot i Slot.free).onEngine fun e => { e with deferred := e.deferred.eraseP (·.retires i) })

/-- A RETURNING entry's DONE is pushed with the requester's unit and tag, and the entry goes FREE when a final reply
was seen or its query was CLEARED, and into QUARANTINE otherwise. It takes a free place as the lowest RETURNING entry
of its table, and none toward a DOWN port; otherwise it waits. That only the lowest takes a free place in this event
too is an inference of the model (log 9); that what the pushed DONE brings about comes before the DONE OK of a
WINDOW_RETIRE the freed entry ends is the model's choice (log 31). -/
def Obligations.ReturningDoneIsPushed : Prop :=
  (∀ (d : Dir) (e : Fin 64) (s : State), running s → s.bridge.isDown d.requesterPort = false →
    s.bridge.hasRoom d.requesterPort .reply = false ∨ (∃ e', e' < e ∧ (s.bridge.entry d e').state = .returning) →
    exec (.returningDonePushed d e) s = .next s) ∧
  ∀ (d : Dir) (e : Fin 64) (status : Status) (s : State), running s →
    let b := s.bridge
    let x := b.entry d e
    x.state = .returning → x.owed = some status →
    b.isDown d.requesterPort = true ∨ (b.hasRoom d.requesterPort .reply = true ∧
      ∀ e', (b.entry d e').state = .returning → e ≤ e') →
    let sent := push (Push.plain d.requesterPort (donePacket b.unit x.reqUnit x.reqTag status)) b
    (x.replySeen = true ∨ x.pos = .cleared →
      exec (.returningDonePushed d e) s = .next { s with bridge := freeEntry d e sent }) ∧
    (x.replySeen = false → x.pos ≠ .cleared →
      exec (.returningDonePushed d e) s = .next { s with
        bridge := sent.setEntry d e { x with
          state := .quarantine, owed := none, replySeen := false,
          quarEnd := b.timeBase + BitVec.ofNat 32 (1000 * b.quarantineMs) } })

/-- A line that notifies pushes its notification and goes OUTSTANDING when the Root Stream queue has a place or Root
is DOWN, and goes PENDING otherwise; a formed reply is pushed at once when its port is DOWN, or when its queue has a
free place and no older reply waits for it, and waits in the engine otherwise. Waiting ones are admitted later: the
lowest PENDING line's notification takes a place of the Root Stream queue and the line goes OUTSTANDING; the oldest
waiting reply for a Reply queue takes a place of it, and an immediate one frees its command's queue place. That a
reply waits behind an older one even where a place is free in that event is the model's choice (log 31). The
notification is the PUT, and the reply the DONE, of 01 Table 1-9, a reply with data in the form of 10 Table 10-2. -/
def Obligations.OwnPacketsAreAdmittedOrWait : Prop :=
  let entering := fun (p : Port) (r : MgmtReply) =>
    ({ port := p, cls := .reply, pkt := r.pkt, mark := none, wakes := true } : Push)
  (∀ (bridge : UnitNo) (l : Line), notificationPut bridge l =
    { kind := .put, ordered := false, speculative := false, blocks := 1, src := bridge, dst := 0, tag := 0,
      addr := l.target, len := 3, info := 0,
      payload := [l.payload.extractLsb' 0 8, l.payload.extractLsb' 8 8, l.payload.extractLsb' 16 8,
        l.payload.extractLsb' 24 8] ++ List.replicate 60 0 }) ∧
  (∀ (bridge dst : UnitNo) (tag : Tag) (code : BitVec 6) (status : Status) (data : List Byte), data.length ≤ 252 →
    let blocks := if data = [] then 0 else (4 + data.length + 63) / 64
    ∃ rest, replyPacket bridge dst tag code status data =
        { kind := .done, ordered := false, speculative := false, blocks := BitVec.ofNat 3 blocks, src := bridge,
          dst := dst, tag := tag, addr := 0, len := 0, info := status.code.zeroExtend 8,
          payload := if data = [] then []
            else [BitVec.ofNat 8 data.length, code.zeroExtend 8, 0, 0] ++ data ++ rest } ∧
      (∀ x ∈ rest, x = 0) ∧ (data ≠ [] → 4 + data.length + rest.length = 64 * blocks)) ∧
  (∀ (b : Bridge) (i : Fin 64),
    (b.hasPlace .root .stream = true →
      notify i b = push (Push.plain .root (notificationPut b.unit (b.line i)))
        (b.setLine i { b.line i with state := .outstanding })) ∧
    (b.hasPlace .root .stream = false → notify i b = b.setLine i { b.line i with state := .pending })) ∧
  (∀ (r : MgmtReply) (wakes : Bool) (b : Bridge),
    deliver r b = deliverWith push r true b ∧
    (b.isDown r.port = true ∨ (b.hasRoom r.port .reply = true ∧ ∀ w ∈ b.engine.waiting, w.port ≠ r.port) →
      deliverWith push r wakes b = push { entering r.port r with wakes := wakes }
        (b.onEngine fun e => { e with queue := if r.immediate then e.queue.tail else e.queue })) ∧
    (b.isDown r.port = false → b.hasRoom r.port .reply = false ∨ (∃ w ∈ b.engine.waiting, w.port = r.port) →
      deliverWith push r wakes b = b.onEngine fun e => { e with waiting := e.waiting ++ [r] })) ∧
  ∀ s : State, running s →
    let b := s.bridge
    (∀ i, (b.line i).state = .pending → (∀ j, (b.line j).state = .pending → i ≤ j) → b.hasPlace .root .stream = true →
      exec .notificationAdmitted s = .next { s with
        bridge := push (Push.plain .root (notificationPut b.unit (b.line i)))
          (b.setLine i { b.line i with state := .outstanding }) }) ∧
    ((∀ j, (b.line j).state ≠ .pending) → exec .notificationAdmitted s = .next s) ∧
    (∀ (p : Port) (older newer : List MgmtReply) (r : MgmtReply), b.engine.waiting = older ++ r :: newer →
      (∀ o ∈ older, o.port ≠ p) → r.port = p → b.hasPlace p .reply = true →
      exec (.managementReplyAdmitted p) s = .next { s with
        bridge := push (entering p r) (b.onEngine fun e =>
          { e with waiting := older ++ newer, queue := if r.immediate then e.queue.tail else e.queue }) })

/-! ### Management commands -/

/-- The commands that only read: each answers DONE OK with its reply data and changes nothing, and RANGE when it names
no object. The reply data is given byte by byte: IDENTIFY's, PORT_STATUS's (Table 8-6), LANE_READ's, WINDOW_READ's
(Table 2-2), GROUP_READ's (Table 2-5), QUERY_READ's (Table 4-4), QUERY_SUMMARY's for one table, and SIGNAL_READ's
(Table 9-3). That QUERY_READ reports the deadline in RETURNING and QUARANTINE too is an inference of the model (log
18); that QUERY_SUMMARY counts both tables at one moment is the model's choice (log 32). -/
def Obligations.ReadCommandsReport : Prop :=
  let num := fun n : Nat => BitVec.ofNat 8 n
  let int := fun n : Int => BitVec.ofInt 8 n
  let port := fun p : Port => if p = .root then num 0 else num 1
  let rate := fun r : Rate => match r with | .r3_2 => num 1 | .r6_4 => num 2 | .r12_8 => num 3
  let lanes := fun w : Width => match w with | .w4 => 4 | .w8 => 8 | .w16 => 16
  let six := fun a : Addr => [a.extractLsb' 40 8, a.extractLsb' 32 8, a.extractLsb' 24 8, a.extractLsb' 16 8,
    a.extractLsb' 8 8, a.extractLsb' 0 8]
  let four := fun m : Time => [m.extractLsb' 24 8, m.extractLsb' 16 8, m.extractLsb' 8 8, m.extractLsb' 0 8]
  let link := fun x : LinkState => match x with
    | .down => num 0 | .training => num 1 | .config => num 2 | .active => num 3 | .parked => num 4 | .waking => num 5
  let cause := fun x : Cause => match x with
    | .coldReset => num 0 | .reset => num 1 | .retrain => num 2 | .partnerTrain => num 3 | .replayLimit => num 4
    | .creditOverrun => num 5 | .leafResetReceived => num 6 | .wakeTimeout => num 7
  let settings := fun x : LinkSettings => [num (lanes x.widthCap), rate x.rateCap, int x.trim, num x.replayTimeout]
  let held := fun a : SendAccount => [int a.held.headers, int a.held.blocks]
  let count := fun (b : Bridge) (d : Dir) (st : EntryState) =>
    num ((List.finRange 64).countP fun e => (b.entry d e).state == st)
  (∀ (b : Bridge) (c : Command), identifyData b c =
    [0x02, 0xB7, 0x24, 0x40, 1, b.unit.zeroExtend 8, link (b.linkState .root), link (b.linkState .leaf),
      num b.engine.leafOpen.toNat, num b.engine.resetForwarding.toNat, num b.engine.queue.length,
      num b.engine.deferred.length, port c.port]) ∧
  (∀ (b : Bridge) (p : Port), portData b p =
    let x := b.port p
    [port p, link x.record.state, (match x.record.width with | none => 0 | some w => num (lanes w)), rate x.record.rate,
      num x.record.attempts, cause x.record.cause] ++ settings x.record.inForce ++ settings x.record.pendingSettings ++
    [num x.send.buffer.length, rate x.record.partnerMax] ++ held x.credit.stream ++ held x.credit.query ++
    held x.credit.reply ++
    [num (b.queue p .stream).length, num (b.queue p .query).length, num (b.queue p .reply).length,
      match b.engine.deferred.find? (·.links p) with
      | none => 0
      | some d => match d.op with | .retire _ => 0 | .retrain _ false => 1 | .retrain _ true => 2 | .park _ _ => 3]) ∧
  (∀ (p : Port) (i : Fin 16) (l : LaneRec), laneData p i l =
    [port p, num i, (match l.result with | .notSwept => 0 | .passed => 1 | .failed => 2), num l.inUse.toNat, num l.first,
      num l.last, num l.centre, num l.applied, rate l.rate]) ∧
  (∀ (i : Fin 32) (x : Slot), windowData i x =
    [num i, (match x.state with | .free => 0 | .staged => 1 | .live => 2 | .draining => 3),
      num ((x.window.direction == .up).toNat + 2 * x.window.readAllowed.toNat + 4 * x.window.writeAllowed.toNat +
        8 * x.window.earlyAck.toNat + 16 * x.window.specAllowed.toNat + 32 * x.window.translation.isSome.toNat),
      num x.window.group, x.window.sizeExp, num x.inflight] ++ six x.window.base ++
      six (x.window.translation.getD 0) ++ [0, 0, 0, 0, 0, 0]) ∧
  (∀ (g : Fin 8) (m : BitVec 32), groupData g m =
    [num g, m.extractLsb' 0 8, m.extractLsb' 8 8, m.extractLsb' 16 8, m.extractLsb' 24 8]) ∧
  (∀ (d : Dir) (e : Fin 64) (x : Entry) (now : Time), queryData d e x now =
    [(if d = .up then 1 else 0), num e,
      num ((match x.state with | .free => 0 | .waiting => 1 | .returning => 2 | .quarantine => 3) +
        4 * (match x.pos with | .queued => 0 | .sent => 1 | .cleared => 2) +
        16 * (match x.kind with | .get => 0 | .set => 1 | .manage => 2) + 64 * x.replySeen.toNat),
      x.reqUnit.zeroExtend 8, x.reqTag, (match x.slot with | none => 0 | some i => num (32 + i)), num x.reqBlocks,
      num x.delivered, (match x.nextPart with | none => 0 | some n => num (4 + n)),
      (match x.owed with
       | none => 0 | some .ok => 0 | some .failed => 1 | some .timeout => 2 | some .denied => 3 | some .noTarget => 4
       | some .linkDown => 5 | some .declined => 6 | some .malformed => 7 | some .busy => 8 | some .state => 9
       | some .range => 10)] ++ four x.deadline ++ four x.quarEnd ++ four now) ∧
  (∀ (b : Bridge) (d : Dir), summaryData b d =
    [count b d .free, count b d .waiting, count b d .returning, count b d .quarantine]) ∧
  (∀ (i : Fin 64) (l : Line), lineData i l =
    [num i,
      num (l.enabled.toNat + 2 * l.masked.toNat + 4 * l.level.toNat + 8 * l.lastUnit.isSome.toNat +
        16 * (match l.state with | .idle => 0 | .pending => 1 | .outstanding => 2)),
      (l.lastUnit.getD 0).zeroExtend 8] ++ six l.target ++
      [l.payload.extractLsb' 0 8, l.payload.extractLsb' 8 8, l.payload.extractLsb' 16 8, l.payload.extractLsb' 24 8]) ∧
  ∀ (s : State) (c : Command),
    let b := s.bridge
    let ok := fun data : List Byte => Host.Outcome.next (answered s c .ok data b)
    let range := Host.Outcome.next (answered s c .range [] b)
    (HeadReady s 0 0 c → exec .identify s = ok (identifyData b c)) ∧
    (∀ p, HeadReady s 8 1 c → c.num 0 = (Port.code p).toNat → exec .portStatus s = ok (portData b p)) ∧
    (HeadReady s 8 1 c → 2 ≤ c.num 0 → exec .portStatus s = range) ∧
    (∀ p (i : Fin 16), HeadReady s 13 2 c → c.num 0 = (Port.code p).toNat → c.num 1 = i.val →
      exec .laneRead s = ok (laneData p i (b.port p).lanes[i])) ∧
    (HeadReady s 13 2 c → 2 ≤ c.num 0 ∨ 16 ≤ c.num 1 → exec .laneRead s = range) ∧
    (∀ i : Fin 32, HeadReady s 28 1 c → c.num 0 = i.val → exec .windowRead s = ok (windowData i (b.slot i))) ∧
    (HeadReady s 28 1 c → 32 ≤ c.num 0 → exec .windowRead s = range) ∧
    (∀ g : Fin 8, HeadReady s 30 1 c → c.num 0 = g.val → exec .groupRead s = ok (groupData g b.groups[g])) ∧
    (HeadReady s 30 1 c → 8 ≤ c.num 0 → exec .groupRead s = range) ∧
    (∀ (d : Dir) (e : Fin 64), HeadReady s 33 2 c → c.num 0 = (if d = .down then 0 else 1) → c.num 1 = e.val →
      exec .queryRead s = ok (queryData d e (b.entry d e) b.timeBase)) ∧
    (HeadReady s 33 2 c → 2 ≤ c.num 0 ∨ 64 ≤ c.num 1 → exec .queryRead s = range) ∧
    (HeadReady s 34 0 c → exec .querySummary s = ok (summaryData b .down ++ summaryData b .up)) ∧
    (∀ i : Fin 64, HeadReady s 43 1 c → c.num 0 = i.val → exec .signalRead s = ok (lineData i (b.line i))) ∧
    (HeadReady s 43 1 c → 64 ≤ c.num 0 → exec .signalRead s = range)

/-- The window commands by slot state: LOAD on FREE or STAGED writes the record, ACTIVATE on STAGED makes it LIVE when
the checks pass, RETIRE on LIVE frees or drains it or finds no deferred place, DISCARD on STAGED frees it; in every
other state the answer is STATE. WINDOW_LOAD's operand bytes are those of Table 2-2: byte 0 the slot, byte 2 the flags,
byte 3 the group, byte 4 the size exponent, bytes 6 to 11 the base, bytes 12 to 17 the target base. -/
def Obligations.WindowCommandsByState : Prop :=
  (∀ (c : Command) (i : Nat), c.byte i = c.payload.getD (4 + i) 0 ∧ c.num i = (c.byte i).toNat) ∧
  (∀ c : Command,
    let flag := fun bit : Nat => (c.byte 2).getLsbD bit
    let address := fun i : Nat => (((c.num i * 256 + c.num (i + 1)) * 256 + c.num (i + 2)) * 256 + c.num (i + 3)) *
      256 ^ 2 + c.num (i + 4) * 256 + c.num (i + 5)
    (c.window.direction = .up ↔ flag 0 = true) ∧ c.window.readAllowed = flag 1 ∧ c.window.writeAllowed = flag 2 ∧
    c.window.earlyAck = flag 3 ∧ c.window.specAllowed = flag 4 ∧ c.window.group.val = c.num 3 % 8 ∧
    c.window.sizeExp = c.byte 4 ∧ c.window.base.toNat = address 6 ∧
    (flag 5 = false → c.window.translation = none) ∧
    (flag 5 = true → ∃ t, c.window.translation = some t ∧ t.toNat = address 12)) ∧
  (∀ w : WindowRecord, w.activates = true ↔
    12 ≤ w.sizeExp.toNat ∧ w.sizeExp.toNat ≤ 48 ∧ 2 ^ w.sizeExp.toNat ∣ w.base.toNat ∧
      (w.sizeExp.toNat = 48 → w.base = 0) ∧
      ∀ t, w.translation = some t → 2 ^ w.sizeExp.toNat ∣ t.toNat ∧ (w.sizeExp.toNat = 48 → t = 0)) ∧
  ∀ (s : State) (c : Command) (i : Fin 32),
    let b := s.bridge
    let x := b.slot i
    let ok := fun b' : Bridge => Host.Outcome.next (answered s c .ok [] b')
    let refused := fun status : Status => Host.Outcome.next (answered s c status [] b)
    (HeadReady s 24 24 c → c.num 0 % 32 = i.val →
      (x.state = .free ∨ x.state = .staged →
        exec .windowLoad s = ok (b.setSlot i { state := .staged, window := c.window, inflight := 0 })) ∧
      (x.state = .live ∨ x.state = .draining → exec .windowLoad s = refused .state)) ∧
    (HeadReady s 25 1 c → c.num 0 = i.val →
      (x.state = .staged → x.window.activates = true →
        exec .windowActivate s = ok (b.setSlot i { x with state := .live })) ∧
      (x.state = .staged → x.window.activates = false → exec .windowActivate s = refused .range) ∧
      (x.state ≠ .staged → exec .windowActivate s = refused .state)) ∧
    (HeadReady s 26 1 c → c.num 0 = i.val →
      (x.state = .live → x.inflight = 0 → exec .windowRetire s = ok (b.setSlot i Slot.free)) ∧
      (x.state = .live → 0 < x.inflight → b.engine.deferred.length < 4 →
        exec .windowRetire s = .next (deferredAs s c (.retire i) (b.setSlot i { x with state := .draining }))) ∧
      (x.state = .live → 0 < x.inflight → 4 ≤ b.engine.deferred.length → exec .windowRetire s = refused .busy) ∧
      (x.state ≠ .live → exec .windowRetire s = refused .state)) ∧
    (HeadReady s 27 1 c → c.num 0 = i.val →
      (x.state = .staged → exec .windowDiscard s = ok (b.setSlot i Slot.free)) ∧
      (x.state ≠ .staged → exec .windowDiscard s = refused .state)) ∧
    (32 ≤ c.num 0 →
      (HeadReady s 25 1 c → exec .windowActivate s = refused .range) ∧
      (HeadReady s 26 1 c → exec .windowRetire s = refused .range) ∧
      (HeadReady s 27 1 c → exec .windowDiscard s = refused .range))

/-- GROUP_SET replaces one member set whole, and answers RANGE for a group of 8–255. MISS_POLICY_SET takes a policy
0–2 for each direction, keeps it for 3, refuses 4–255, and reports both policies. -/
def Obligations.GroupAndMissSettings : Prop :=
  (∀ (s : State) (c : Command), HeadReady s 29 5 c →
    (∀ g : Fin 8, c.num 0 = g.val →
      ∃ groups : Vector (BitVec 32) 8,
        exec .groupSet s = .next (answered s c .ok [] { s.bridge with groups := groups }) ∧
        (∀ u : Nat, u < 32 → groups[g].getLsbD u = (c.byte (1 + u / 8)).getLsbD (u % 8)) ∧
        ∀ g' : Fin 8, g' ≠ g → groups[g'] = s.bridge.groups[g']) ∧
    (8 ≤ c.num 0 → exec .groupSet s = .next (answered s c .range [] s.bridge))) ∧
  ∀ (s : State) (c : Command), HeadReady s 31 2 c →
    let b := s.bridge
    let given := fun (v : Nat) (now : MissPolicy) =>
      if v = 0 then MissPolicy.pass else if v = 1 then .reflect else if v = 2 then .reject else now
    let down := given (c.num 0) b.miss.down
    let up := given (c.num 1) b.miss.up
    let code := fun m : MissPolicy => (match m with | .pass => 0 | .reflect => 1 | .reject => 2 : Byte)
    (c.num 0 ≤ 3 → c.num 1 ≤ 3 →
      exec .missPolicySet s =
        .next (answered s c .ok [code down, code up] { b with miss := { down := down, up := up } })) ∧
    (4 ≤ c.num 0 ∨ 4 ≤ c.num 1 → exec .missPolicySet s = .next (answered s c .range [] b))

/-- TIMER_SET and ACCESS_SET write what they are given, keep what they are told to keep, refuse values out of range
whole, and report both settings; a timer setting is two operand bytes, the most significant first. -/
def Obligations.TimerAndAccessSet : Prop :=
  ∀ (s : State) (c : Command),
    let b := s.bridge
    let ms := fun v now : Nat => if v = 0 then now else v
    let on := fun (v : Nat) (now : Bool) => if v = 0 then false else if v = 1 then true else now
    (∀ i, c.num16 i = 256 * c.num i + c.num (i + 1)) ∧
    (HeadReady s 32 4 c → c.num16 0 ≤ 4000 → c.num16 2 ≤ 4000 →
      let d := ms (c.num16 0) b.deadlineMs
      let q := ms (c.num16 2) b.quarantineMs
      exec .timerSet s = .next (answered s c .ok
        [BitVec.ofNat 8 (d / 256), BitVec.ofNat 8 d, BitVec.ofNat 8 (q / 256), BitVec.ofNat 8 q]
        { b with deadlineMs := d, quarantineMs := q })) ∧
    (HeadReady s 32 4 c → 4000 < c.num16 0 ∨ 4000 < c.num16 2 →
      exec .timerSet s = .next (answered s c .range [] b)) ∧
    (HeadReady s 1 2 c → c.num 0 ≤ 2 → c.num 1 ≤ 2 →
      let leaf := on (c.num 0) b.engine.leafOpen
      let fwd := on (c.num 1) b.engine.resetForwarding
      exec .accessSet s = .next (answered s c .ok [BitVec.ofNat 8 leaf.toNat, BitVec.ofNat 8 fwd.toNat]
        { b with engine := { b.engine with leafOpen := leaf, resetForwarding := fwd } })) ∧
    (HeadReady s 1 2 c → 3 ≤ c.num 0 ∨ 3 ≤ c.num 1 → exec .accessSet s = .next (answered s c .range [] b))

/-- LINK_SET, BUFFER_PLAN_SET and ARBITER_SET write the selected ports alone: pending settings, the pending plan, or
the start and current priorities, each kept where its byte says so; selector 2 writes both ports, selector 3 changes
nothing, and values out of range are refused whole (ARBITER_SET's with selector 3 too). A plan is operand bytes 1 to 6
and is valid under the four conditions of R103. Each answers with its reply data, 16, 60 and 12 bytes, for both ports,
given byte by byte. -/
def Obligations.PortSettingCommands : Prop :=
  let num := fun n : Nat => BitVec.ofNat 8 n
  let int := fun n : Int => BitVec.ofInt 8 n
  let setting := fun x : LinkSettings =>
    [(match x.widthCap with | .w4 => num 4 | .w8 => num 8 | .w16 => num 16),
      (match x.rateCap with | .r3_2 => num 1 | .r6_4 => num 2 | .r12_8 => num 3), int x.trim, num x.replayTimeout]
  let amounts := fun x : PerClass (Amount Nat) =>
    [num x.stream.headers, num x.stream.blocks, num x.query.headers, num x.query.blocks, num x.reply.headers,
      num x.reply.blocks]
  let account := fun a : RxAccount =>
    [num a.occupied.headers, num a.occupied.blocks, int a.outstanding.headers, int a.outstanding.blocks,
      num a.allowance.headers, num a.allowance.blocks]
  let three := fun x : PerClass Nat => [num x.reply, num x.stream, num x.query]
  (∀ b : Bridge, linkSetData b =
    setting (b.port .root).record.inForce ++ setting (b.port .root).record.pendingSettings ++
      setting (b.port .leaf).record.inForce ++ setting (b.port .leaf).record.pendingSettings) ∧
  (∀ b : Bridge,
    let r := (b.port .root).ingress
    let l := (b.port .leaf).ingress
    bufferPlanData b = amounts r.activePlan ++ amounts r.pendingPlan ++ amounts l.activePlan ++ amounts l.pendingPlan ++
      account r.account.stream ++ account r.account.query ++ account r.account.reply ++
      account l.account.stream ++ account l.account.query ++ account l.account.reply) ∧
  (∀ b : Bridge,
    let r := (b.port .root).egress
    let l := (b.port .leaf).egress
    arbiterData b = three r.start ++ three l.start ++ three r.current ++ three l.current) ∧
  (∀ c : Command, c.plan = ⟨⟨c.num 1, c.num 2⟩, ⟨c.num 3, c.num 4⟩, ⟨c.num 5, c.num 6⟩⟩) ∧
  (∀ x : PerClass (Amount Nat), validPlan x = true ↔
    x.stream.headers + x.query.headers + x.reply.headers = 48 ∧ x.stream.blocks + x.query.blocks + x.reply.blocks = 96 ∧
      (∀ c, 2 ≤ (x.get c).headers) ∧ ∀ c, 4 ≤ (x.get c).blocks) ∧
  ∀ (s : State) (c : Command),
    let b := s.bridge
    let refused := Host.Outcome.next (answered s c .range [] b)
    let write := fun (f : PortState → PortState) =>
      { b with ports :=
        { root := if c.num 0 = 0 ∨ c.num 0 = 2 then f b.ports.root else b.ports.root,
          leaf := if c.num 0 = 1 ∨ c.num 0 = 2 then f b.ports.leaf else b.ports.leaf } }
    let settings := fun x : LinkSettings =>
      { widthCap := if c.num 1 = 4 then .w4 else if c.num 1 = 8 then .w8 else if c.num 1 = 16 then .w16 else x.widthCap,
        rateCap := if c.num 2 = 1 then .r3_2 else if c.num 2 = 2 then .r6_4 else if c.num 2 = 3 then .r12_8 else x.rateCap,
        trim := if c.byte 3 = 0x80 then x.trim else (c.byte 3).toInt,
        replayTimeout := if c.num 4 = 0 then x.replayTimeout else c.num 4 : LinkSettings }
    let settingsInRange := (c.num 1 = 0 ∨ c.num 1 = 4 ∨ c.num 1 = 8 ∨ c.num 1 = 16) ∧ c.num 2 ≤ 3 ∧
      (c.byte 3 = 0x80 ∨ (-8 ≤ (c.byte 3).toInt ∧ (c.byte 3).toInt ≤ 7)) ∧ (c.num 4 = 0 ∨ 5 ≤ c.num 4)
    let priority := fun i now : Nat => if c.num i = 255 then now else c.num i
    let start := fun x : PerClass Nat =>
      ({ reply := priority 1 x.reply, stream := priority 2 x.stream, query := priority 3 x.query } : PerClass Nat)
    let inRange := fun i : Nat => c.num i = 255 ∨ c.num i ≤ 15
    let startsInRange := inRange 1 ∧ inRange 2 ∧ inRange 3
    (HeadReady s 9 5 c → c.num 0 ≤ 3 →
      (settingsInRange ∨ c.num 0 = 3 →
        let b' := write fun x =>
          { x with record := { x.record with pendingSettings := settings x.record.pendingSettings } }
        exec .linkSet s = .next (answered s c .ok (linkSetData b') b')) ∧
      (¬settingsInRange → c.num 0 ≠ 3 → exec .linkSet s = refused)) ∧
    (HeadReady s 16 7 c → c.num 0 ≤ 3 →
      (validPlan c.plan = true ∨ c.num 0 = 3 →
        let b' := write fun x => { x with ingress := { x.ingress with pendingPlan := c.plan } }
        exec .bufferPlanSet s = .next (answered s c .ok (bufferPlanData b') b')) ∧
      (validPlan c.plan = false → c.num 0 ≠ 3 → exec .bufferPlanSet s = refused)) ∧
    (HeadReady s 17 4 c → c.num 0 ≤ 3 →
      (startsInRange →
        let b' := write fun x =>
          { x with egress := { x.egress with start := start x.egress.start, current := start x.egress.start } }
        exec .arbiterSet s = .next (answered s c .ok (arbiterData b') b')) ∧
      (¬startsInRange → exec .arbiterSet s = refused)) ∧
    (4 ≤ c.num 0 →
      (HeadReady s 9 5 c → exec .linkSet s = refused) ∧ (HeadReady s 16 7 c → exec .bufferPlanSet s = refused) ∧
      (HeadReady s 17 4 c → exec .arbiterSet s = refused))

/-- LINK_RETRAIN, LINK_PARK and LINK_WAKE by port state: what is refused, what is answered at once, what is deferred. A
port number is 0 for Root and 1 for Leaf, and 2–255 is refused. A link command of a port is listed when the deferred
list holds a LINK_RETRAIN or a LINK_PARK of it. -/
def Obligations.LinkCommandsByState : Prop :=
  ((Port.code .root).toNat = 0 ∧ (Port.code .leaf).toNat = 1) ∧
  (∀ (d : Deferred) (p : Port), (d.retrains p = true ↔ ∃ began, d.op = .retrain p began) ∧
    (d.parks p = true ↔ ∃ bound, d.op = .park p bound) ∧
    d.links p = (d.retrains p || d.parks p)) ∧
  (∀ (e : Engine) (p : Port), e.linkListed p = true ↔ ∃ d ∈ e.deferred, d.links p = true) ∧
  (∀ (s : State) (c : Command), 2 ≤ c.num 0 →
    let refused := Host.Outcome.next (answered s c .range [] s.bridge)
    (HeadReady s 10 1 c → exec .linkRetrain s = refused) ∧ (HeadReady s 11 1 c → exec .linkPark s = refused) ∧
    (HeadReady s 12 1 c → exec .linkWake s = refused)) ∧
  ∀ (s : State) (c : Command) (p : Port), c.num 0 = (Port.code p).toNat →
    let b := s.bridge
    let x := b.port p
    let refused := fun status : Status => Host.Outcome.next (answered s c status [] b)
    (HeadReady s 10 1 c →
      (b.engine.linkListed p = true → exec .linkRetrain s = refused .state) ∧
      (b.engine.linkListed p = false → 4 ≤ b.engine.deferred.length → exec .linkRetrain s = refused .busy) ∧
      (b.engine.linkListed p = false → b.engine.deferred.length < 4 →
        b.linkState p = .training ∨ b.linkState p = .config ∨ b.linkState p = .waking →
        exec .linkRetrain s = .next (deferredAs s c (.retrain p false) b)) ∧
      (b.engine.linkListed p = false → b.engine.deferred.length < 4 →
        b.linkState p = .down ∨ b.linkState p = .active ∨ b.linkState p = .parked →
        ∃ b', exec .linkRetrain s = .next (deferredAs s c (.retrain p true) b') ∧
          (b'.port p).record =
            { x.record with
              state := .training, attempts := 0, cause := .retrain, inForce := x.record.pendingSettings,
              rate := Rate.min x.record.pendingSettings.rateCap x.record.partnerMax, attemptStart := b.timeBase } ∧
          b'.port p.other = b.port p.other ∧ b'.tables = b.tables ∧ b'.engine = b.engine)) ∧
    (HeadReady s 11 1 c →
      (b.isActive p = false ∨ b.engine.linkListed p = true → exec .linkPark s = refused .state) ∧
      (b.isActive p = true → b.engine.linkListed p = false → b.drained p = true → x.send.replayPos = none →
        exec .linkPark s = .next { s with
          bridge := deliverWith push (headReply b c .ok []) (c.port != p) (b.setPort p { x with
            record := { x.record with state := .parked }, out := x.out ++ [⟨.flit .park, x.record.width⟩],
            recv := { x.recv with ackDue := false, nakDue := false },
            send := { x.send with timerStart := none, replayPos := none } }) }) ∧
      (b.isActive p = true → b.engine.linkListed p = false → b.drained p = false ∨ x.send.replayPos ≠ none →
        (b.engine.deferred.length < 4 →
          exec .linkPark s = .next (deferredAs s c (.park p (b.timeBase + 1000)) b)) ∧
        (4 ≤ b.engine.deferred.length → exec .linkPark s = refused .busy))) ∧
    (HeadReady s 12 1 c →
      (b.linkState p = .parked →
        exec .linkWake s = .next (answered s c .ok [] (b.setPort p { x with
          record := { x.record with state := .waking }, out := x.out ++ [⟨.flit .wake, x.record.width⟩],
          training := { x.training with wakeStart := b.timeBase, lastWake := b.timeBase } }))) ∧
      (b.linkState p ≠ .parked → exec .linkWake s = refused .state))

/-- SIGNAL_CONFIG, SIGNAL_MASK and SIGNAL_SERVICED write their line and make it notify or cancel as its state gives; a
line of 64–255, an unaligned target and a mask byte of 2–255 are refused. The operands of SIGNAL_CONFIG are an
address, most significant byte first, and four payload bytes in the order written. That the notification and all it
brings about come before the command's reply is the model's choice (log 31). -/
def Obligations.SignalCommandsOnLine : Prop :=
  (∀ c : Command,
    (c.addr 2).toNat = (((c.num 2 * 256 + c.num 3) * 256 + c.num 4) * 256 + c.num 5) * 256 ^ 2 + c.num 6 * 256 + c.num 7 ∧
    ∀ k, k < 4 → c.linePayload.extractLsb' (8 * k) 8 = c.byte (8 + k)) ∧
  (∀ (s : State) (c : Command), 64 ≤ c.num 0 →
    let refused := Host.Outcome.next (answered s c .range [] s.bridge)
    (HeadReady s 40 12 c → exec .signalConfig s = refused) ∧ (HeadReady s 41 2 c → exec .signalMask s = refused) ∧
    (HeadReady s 42 1 c → exec .signalServiced s = refused)) ∧
  ∀ (s : State) (c : Command) (i : Fin 64), c.num 0 = i.val →
    let b := s.bridge
    let l := b.line i
    let ok := fun b' : Bridge => Host.Outcome.next (answered s c .ok [] b')
    let refused := fun status : Status => Host.Outcome.next (answered s c status [] b)
    (HeadReady s 40 12 c →
      let x := { l with enabled := (c.byte 1).getLsbD 0, target := c.addr 2, payload := c.linePayload }
      ((c.addr 2).toNat % 4 ≠ 0 → exec .signalConfig s = refused .range) ∧
      ((c.addr 2).toNat % 4 = 0 → x.enabled = true → x.state = .idle → x.masked = false → x.level = true →
        exec .signalConfig s = ok (notify i (b.setLine i x))) ∧
      ((c.addr 2).toNat % 4 = 0 → x.enabled = true → x.state ≠ .idle ∨ x.masked = true ∨ x.level = false →
        exec .signalConfig s = ok (b.setLine i x)) ∧
      ((c.addr 2).toNat % 4 = 0 → x.enabled = false →
        exec .signalConfig s = ok (b.setLine i (if x.state = .pending then { x with state := .idle } else x)))) ∧
    (HeadReady s 41 2 c →
      (2 ≤ c.num 1 → exec .signalMask s = refused .range) ∧
      (c.num 1 = 1 → exec .signalMask s = ok (b.setLine i
        (if l.state = .pending then { l with masked := true, state := .idle } else { l with masked := true }))) ∧
      (c.num 1 = 0 → l.state = .idle → l.enabled = true → l.level = true →
        exec .signalMask s = ok (notify i (b.setLine i { l with masked := false }))) ∧
      (c.num 1 = 0 → l.state ≠ .idle ∨ l.enabled = false ∨ l.level = false →
        exec .signalMask s = ok (b.setLine i { l with masked := false }))) ∧
    (HeadReady s 42 1 c →
      (l.state ≠ .outstanding → exec .signalServiced s = refused .state) ∧
      (l.state = .outstanding → l.enabled = true → l.masked = false → l.level = true →
        exec .signalServiced s = ok (notify i (b.setLine i { l with state := .idle }))) ∧
      (l.state = .outstanding → l.enabled = false ∨ l.masked = true ∨ l.level = false →
        exec .signalServiced s = ok (b.setLine i { l with state := .idle })))

/-- CAPTURE_READ answers the header of Table 11-3 and up to 4 records, oldest first, in the layout of Table 11-2, and
removes the oldest; CAPTURE_CLEAR removes all and clears the flag. A queue that becomes empty deasserts line 0 and
returns a PENDING line 0 to IDLE; a record that enters an empty queue asserts it, and an IDLE line 0 whose condition
then holds notifies; any other record changes no level. -/
def Obligations.CaptureCommands : Prop :=
  let num := fun n : Nat => BitVec.ofNat 8 n
  let six := fun a : Addr => [a.extractLsb' 40 8, a.extractLsb' 32 8, a.extractLsb' 24 8, a.extractLsb' 16 8,
    a.extractLsb' 8 8, a.extractLsb' 0 8]
  let four := fun m : Time => [m.extractLsb' 24 8, m.extractLsb' 16 8, m.extractLsb' 8 8, m.extractLsb' 0 8]
  let record := fun r : Record =>
    [(match r.kind with
      | .checkFail => num 1 | .replayLimit => num 2 | .linkLost => num 3 | .creditOverrun => num 4 | .malformed => num 5
      | .accessDenied => num 6 | .noWindow => num 7 | .queryTimeout => num 8 | .lateReply => num 9
      | .strayReply => num 10 | .lostReply => num 11 | .discarded => num 12),
      (match r.port with | .root => num 0 | .leaf => num 1),
      num (r.src.isSome.toNat + 2 * r.addr.isSome.toNat + 4 * r.tag.isSome.toNat + 8 * r.slot.isSome.toNat +
        16 * r.status.isSome.toNat + 32 * r.count.isSome.toNat),
      (match r.src with | none => 0 | some u => num u.toNat)] ++ four r.stamp ++
    six (match r.addr with | none => 0 | some a => a) ++
    [(match r.tag with | none => 0 | some x => x), (match r.slot with | none => 0 | some i => num i.val),
      (match r.status with | none => 0 | some x => num x.toNat), (match r.count with | none => 0 | some n => num n)] ++
    [0, 0]
  (∀ b : Bridge, captureData b =
    [num b.capture.length, num (min 4 b.capture.length), num b.overflowed.toNat, 0] ++ four b.timeBase ++
      ((b.capture.take 4).map record).flatten) ∧
  (∀ (r : Record) (b : Bridge), b.capture = [] →
    let held := { b with capture := [r] }.setLine 0 { b.line 0 with level := true }
    ((b.line 0).state = .idle → (b.line 0).enabled = true → (b.line 0).masked = false → raise r b = notify 0 held) ∧
    ((b.line 0).state ≠ .idle ∨ (b.line 0).enabled = false ∨ (b.line 0).masked = true → raise r b = held)) ∧
  (∀ (r : Record) (b : Bridge), b.capture ≠ [] → (b.line 0).level = true →
    (raise r b).lines = b.lines ∧ (raise r b).engine = b.engine ∧ (raise r b).ports = b.ports) ∧
  ∀ (s : State) (c : Command),
    let b := s.bridge
    let l := b.line 0
    let off := { l with level := false, state := if l.state = .pending then .idle else l.state }
    let read := fun b' : Bridge => exec .captureRead s = .next (answered s c .ok (captureData b) b')
    let cleared := fun b' : Bridge =>
      exec .captureClear s = .next (answered s c .ok [num b.capture.length, num b.overflowed.toNat] b')
    (HeadReady s 48 0 c →
      (b.capture = [] → read b) ∧
      (∀ r, b.capture = [r] → read ({ b with capture := [] }.setLine 0 off)) ∧
      (∀ r r' rest, b.capture = r :: r' :: rest → read { b with capture := r' :: rest })) ∧
    (HeadReady s 49 0 c →
      (b.capture = [] → cleared { b with overflowed := false }) ∧
      (b.capture ≠ [] → cleared ({ b with capture := [], overflowed := false }.setLine 0 off)))

/-- The engine's own judgement, in its order: an unknown code is MALFORMED, an operand count out of range is RANGE,
ACCESS_SET from Leaf is DENIED, too few operands are RANGE; each changes nothing beside its reply. The operand count is
payload byte 0, and 0 without a payload block; it is out of range above 252, and where 4 plus the count exceeds the
payload's bytes. That a MANAGE without a payload block so has a count out of range is the model's inference (log 17).
-/
def Obligations.EngineRefusesBeforeExecution : Prop :=
  (∀ c : Command, c.count = (if c.blocks = 0 then 0 else (c.payload.getD 0 0).toNat) ∧
    (c.countOutOfRange = true ↔ 252 < c.count ∨ 64 * c.blocks < 4 + c.count)) ∧
  (∀ e : Engine, e.free = true ↔ ∀ r ∈ e.waiting, r.immediate = false) ∧
  (∀ code : BitVec 6, code ∈ knownCodes ↔ code.toNat ∈
    [0, 1, 8, 9, 10, 11, 12, 13, 16, 17, 24, 25, 26, 27, 28, 29, 30, 31, 32, 33, 34, 40, 41, 42, 43, 48, 49]) ∧
  ∀ (s : State) (c : Command), running s → s.bridge.engine.queue.head? = some c → s.bridge.engine.free = true →
    let refused := fun status : Status => Host.Outcome.next (answered s c status [] s.bridge)
    let row := fun (code : BitVec 6) (req : Nat) (i : Instr) => c.code = code →
      (c.countOutOfRange = true → exec i s = refused .range) ∧
      (c.countOutOfRange = false → ¬(code = 1 ∧ c.port = .leaf) → c.count < req → exec i s = refused .range)
    (c.code ∉ knownCodes → exec .unknownCommand s = refused .malformed) ∧
    (c.code = 1 → c.countOutOfRange = false → c.port = .leaf → exec .accessSet s = refused .denied) ∧
    row 0 0 .identify ∧ row 1 2 .accessSet ∧ row 8 1 .portStatus ∧ row 9 5 .linkSet ∧ row 10 1 .linkRetrain ∧
    row 11 1 .linkPark ∧ row 12 1 .linkWake ∧ row 13 2 .laneRead ∧ row 16 7 .bufferPlanSet ∧ row 17 4 .arbiterSet ∧
    row 24 24 .windowLoad ∧ row 25 1 .windowActivate ∧ row 26 1 .windowRetire ∧ row 27 1 .windowDiscard ∧
    row 28 1 .windowRead ∧ row 29 5 .groupSet ∧ row 30 1 .groupRead ∧ row 31 2 .missPolicySet ∧ row 32 4 .timerSet ∧
    row 33 2 .queryRead ∧ row 34 0 .querySummary ∧ row 40 12 .signalConfig ∧ row 41 2 .signalMask ∧
    row 42 1 .signalServiced ∧ row 43 1 .signalRead ∧ row 48 0 .captureRead ∧ row 49 0 .captureClear

/-! ### Admission and records -/

/-- A push at a port that is not DOWN and has no LINK_PARK draining enters its queue as the newest packet with the
port's next arrival stamp; at a PARKED port it also starts the wake. At a port whose LINK_PARK drains it enters the
same way, and the drain fails: the command leaves the deferred list and is answered DONE BUSY. A push to a DOWN port
enters no queue and is discarded with a DISCARDED record of count 1. A queue has room below 32 packets, and a place is
present where it has room or its port is DOWN. -/
def Obligations.PushEntersOrIsDiscarded : Prop :=
  (∀ (b : Bridge) (p : Port) (c : Cls), (b.isDown p = true ↔ (b.port p).record.state = .down) ∧
    (b.isActive p = true ↔ (b.port p).record.state = .active) ∧ (b.hasRoom p c = true ↔ (b.queue p c).length < 32) ∧
    b.hasPlace p c = (b.isDown p || b.hasRoom p c)) ∧
  (∀ (p : Port) (k : Packet), Push.plain p k = { port := p, cls := k.cls, pkt := k, mark := none, wakes := true }) ∧
  ∀ (x : Push) (b : Bridge),
    let s := b.port x.port
    let egress := { s.egress with
      queues := s.egress.queues.set x.cls
        (b.queue x.port x.cls ++ [{ pkt := x.pkt, stamp := s.egress.admissions, mark := x.mark }]),
      admissions := s.egress.admissions + 1 }
    (b.isDown x.port = false → noDrain b x.port → b.linkState x.port ≠ .parked ∨ x.wakes = false →
      push x b = b.setPort x.port { s with egress := egress }) ∧
    (noDrain b x.port → b.linkState x.port = .parked → x.wakes = true →
      push x b = b.setPort x.port { s with
        egress := egress, record := { s.record with state := .waking }, out := s.out ++ [⟨.flit .wake, s.record.width⟩],
        training := { s.training with wakeStart := b.timeBase, lastWake := b.timeBase } }) ∧
    (∀ (d : Deferred) (bound : Time), b.linkState x.port = .active →
      b.engine.deferred.filter (·.parks x.port) = [d] → d.op = .park x.port bound →
      let entered := (b.setPort x.port { s with egress := egress }).onEngine fun e =>
        { e with deferred := e.deferred.eraseP (·.parks x.port) }
      let busy : MgmtReply :=
        { port := d.port, pkt := replyPacket b.unit d.src d.tag 11 .busy [], immediate := false }
      noDrain (push x b) x.port ∧ ReplyGiven b (push x b) busy ∧
      (∃ q ∈ (push x b).queue x.port x.cls, q.pkt = x.pkt ∧ q.stamp = s.egress.admissions) ∧
      (b.isDown d.port = false → noDrain b d.port ∨ d.port = x.port → push x b = deliver busy entered)) ∧
    (b.isDown x.port = true →
    let record := { bareRecord .discarded x.port b.timeBase with
      src := some x.pkt.src,
      addr := if x.pkt.kind = .put ∨ x.pkt.kind = .get ∨ x.pkt.kind = .set then some x.pkt.addr else none,
      tag := if x.pkt.kind = .get ∨ x.pkt.kind = .set ∨ x.pkt.kind = .data ∨ x.pkt.kind = .done then some x.pkt.tag
        else none,
      status := if x.pkt.kind = .done then some x.pkt.status else none, count := some 1 }
    (∀ c, (push x b).queue x.port c = b.queue x.port c) ∧
    (b.capture.length < 16 → record ∈ (push x b).capture) ∧ (16 ≤ b.capture.length → (push x b).overflowed = true))

/-- A raised record enters as the newest after the records held, or is dropped and sets the overflowed flag when 16 are
held; anything the event raises after it stands behind it. A bare record has its kind, its port and the time base, and
no optional field. -/
def Obligations.RaisedRecordEnters : Prop :=
  (∀ (kind : RecordKind) (p : Port) (now : Time), bareRecord kind p now =
    { kind := kind, port := p, stamp := now, src := none, addr := none, tag := none, slot := none, status := none,
      count := none }) ∧
  ∀ (r : Record) (b : Bridge),
    (b.capture.length < 16 → ∃ later, (raise r b).capture = b.capture ++ r :: later) ∧
    (16 ≤ b.capture.length → (raise r b).capture = b.capture ∧ (raise r b).overflowed = true)

/-! ### The wire -/

/-- Every flit the part can send stands on the lanes as the bytes of 07 Table 7-2 with the 16-bit check value of R116,
the most significant byte first, and is read back as itself. A flit is taken exactly where its check value is good,
its flit code is 0–8, its rate and width fields hold values of their encodings, and it has as many bytes as its layout
(the length is the model's inference, log 19); the bits marked zero are not examined. The check value starts from all
ones and takes the bytes in order, the most significant bit first. -/
def Obligations.FlitsReadBack : Prop :=
  let counts := fun c : PerClass (Amount Byte) =>
    [c.stream.headers, c.stream.blocks, c.query.headers, c.query.blocks, c.reply.headers, c.reply.blocks]
  let code := fun r : Rate => match r with | .r3_2 => 1 | .r6_4 => 2 | .r12_8 => 3
  let flag := fun x : Bool => if x then 128 else 0
  let high := fun n : Seq => BitVec.ofNat 8 (n.toNat / 256)
  let low := fun n : Seq => BitVec.ofNat 8 (n.toNat % 256)
  let check := fun c : BitVec 16 => (#v[c.extractLsb' 8 8, c.extractLsb' 0 8] : Vector Byte 2)
  (∀ f : Flit, f.onLanes.check = check (crc16 f.onLanes.bytes) ∧ f.onLanes.bytes =
    match f with
    | .idle => [0x00]
    | .train marker rate => [0x10, BitVec.ofNat 8 (flag marker + code rate)]
    | .config c =>
      [0x20, (match c.maxWidth with | .w4 => 4 | .w8 => 8 | .w16 => 16),
        BitVec.ofNat 8 (flag c.restart + code c.maxRate)] ++ counts c.credits
    | .ack n => [0x30, high n, low n]
    | .nak n => [0x40, high n, low n]
    | .credit t => 0x50 :: counts t
    | .park => [0x60]
    | .wake => [0x70]
    | .reset => [0x80]) ∧
  (crc16 [] = 0xFFFF ∧ ∀ (bytes : List Byte) (x : Byte), crc16 (bytes ++ [x]) =
    [7, 6, 5, 4, 3, 2, 1, 0].foldl
      (fun (c : BitVec 16) (i : Nat) => if c.msb = x.getLsbD i then c <<< 1 else (c <<< 1) ^^^ 0x1021) (crc16 bytes)) ∧
  (∀ r : RawFlit, r.check ≠ check (crc16 r.bytes) → readFlit r = none) ∧ (∀ f : Flit, readFlit f.onLanes = some f) ∧
  (∀ (r : RawFlit) (x : Byte) (rest : List Byte), r.bytes = x :: rest → 9 ≤ x.toNat / 16 → readFlit r = none) ∧
  let layout := fun (c : Nat) (rest : List Byte) (r : RawFlit) =>
    r.check = check (crc16 r.bytes) ∧ ∃ x : Byte, r.bytes = x :: rest ∧ x.toNat / 16 = c
  let number := fun (h l : Byte) => BitVec.ofNat 12 (h.toNat % 16 * 256 + l.toNat)
  ∀ (r : RawFlit) (f : Flit), readFlit r = some f ↔
    match f with
    | .idle => layout 0 [] r
    | .train marker rate => ∃ y : Byte, layout 1 [y] r ∧ y.getLsbD 7 = marker ∧ y.toNat % 4 = code rate
    | .config c => ∃ w y : Byte, layout 2 (w :: y :: counts c.credits) r ∧
      w.toNat % 32 = (match c.maxWidth with | .w4 => 4 | .w8 => 8 | .w16 => 16) ∧ y.getLsbD 7 = c.restart ∧
      y.toNat % 4 = code c.maxRate
    | .ack n => ∃ h l : Byte, layout 3 [h, l] r ∧ n = number h l
    | .nak n => ∃ h l : Byte, layout 4 [h, l] r ∧ n = number h l
    | .credit t => layout 5 (counts t) r
    | .park => layout 6 [] r
    | .wake => layout 7 [] r
    | .reset => layout 8 [] r

/-- A framed packet stands on the lanes as its sequence number, the 12 header bytes of 01 Table 1-3, its payload and the
32-bit check value of 07 R115 over all of them, the most significant byte first. Every packet whose unused bits of byte
11 are zero and whose payload has its block count, framed under any sequence number, arrives as a good frame that spells
the same packet. That a frame whose payload is not its header's counts as damaged is the model's inference (log 19). -/
def Obligations.PacketsReadBack : Prop :=
  let num := fun n : Nat => BitVec.ofNat 8 n
  let kind := fun k : Kind =>
    match k with
    | .put => 0 | .signal => 1 | .get => 2 | .set => 3 | .manage => 4 | .data => 5 | .done => 6 | .none7 => 7
  let header := fun k : Packet =>
    [num (32 * kind k.kind + 16 * k.ordered.toNat + 8 * k.speculative.toNat + k.blocks.toNat), num k.src.toNat,
      num k.dst.toNat, k.tag, k.addr.extractLsb' 40 8, k.addr.extractLsb' 32 8, k.addr.extractLsb' 24 8,
      k.addr.extractLsb' 16 8, k.addr.extractLsb' 8 8, k.addr.extractLsb' 0 8, k.len, k.info]
  let number := fun n : Seq => [num (n.toNat / 256), num (n.toNat % 256)]
  let check := fun c : BitVec 32 =>
    (#v[c.extractLsb' 24 8, c.extractLsb' 16 8, c.extractLsb' 8 8, c.extractLsb' 0 8] : Vector Byte 4)
  (∀ (n : Seq) (k : Packet),
    frame n k = { seq := n, pkt := k, check := crc32 (number n ++ header k ++ k.payload) } ∧
    (sealFrame n k).seq = n ∧ (sealFrame n k).header.toList = header k ∧ (sealFrame n k).payload = k.payload ∧
    (sealFrame n k).check = check (crc32 (number n ++ header k ++ k.payload))) ∧
  (crc32 [] = 0 ∧ ∀ (bytes : List Byte) (x : Byte), crc32 (bytes ++ [x]) =
    ~~~([7, 6, 5, 4, 3, 2, 1, 0].foldl
      (fun (c : BitVec 32) (i : Nat) => if c.msb = x.getLsbD i then c <<< 1 else (c <<< 1) ^^^ 0x741B8CD7) (~~~(crc32 bytes)))) ∧
  (∀ f : RxFrame, goodFrame f = true ↔ f.payload.length = 64 * (f.header[0].toNat % 8) ∧
    f.check = check (crc32 (number f.seq ++ f.header.toList ++ f.payload))) ∧
  (∀ k : Packet,
    k.cls = (match k.kind with
      | .put => .stream | .signal => .stream | .none7 => .stream | .get => .query | .set => .query | .manage => .query
      | .data => .reply | .done => .reply) ∧
    k.kind.infoMask = (match k.kind with
      | .put => 0 | .get => 0 | .set => 0 | .none7 => 0 | .signal => 0xBF | .manage => 0x3F | .data => 0x83 | .done => 0x0F) ∧
    k.line.val = k.info.toNat % 64 ∧ k.topInfo = k.info.getLsbD 7 ∧ k.command.toNat = k.info.toNat % 64 ∧
    k.part.val = k.info.toNat % 4 ∧ k.status.toNat = k.info.toNat % 16 ∧
    (k.final = true ↔ k.kind = .done ∨ (k.kind = .data ∧ k.info.getLsbD 7 = true))) ∧
  ∀ (n : Seq) (k : Packet), k.info &&& k.kind.infoMask = k.info → k.payload.length = 64 * k.blocks.toNat →
    goodFrame (sealFrame n k) = true ∧ framePacket (sealFrame n k) = k

/-! ### Invariants -/

/-- Every step keeps the capture queue within 16 records with line 0 asserted exactly while it holds one. -/
def Obligations.StepKeepsCapture : Prop :=
  ∀ s t : State, CaptureInv s.bridge → step s = .next t → CaptureInv t.bridge

/-- Every step keeps every egress queue within 32 packets. -/
def Obligations.StepKeepsQueues : Prop :=
  ∀ s t : State, QueueInv s.bridge → step s = .next t → QueueInv t.bridge

/-- Every step keeps both replay buffers within 32 consecutively numbered frames with good check values, and lets a
replay stand in ACTIVE alone. -/
def Obligations.StepKeepsReplay : Prop :=
  ∀ s t : State, ReplayInv s.bridge → step s = .next t → ReplayInv t.bridge

/-- Every step keeps the command queue within 8, the deferred list within 4, one immediate reply waiting at most, and
every waiting reply a DONE. -/
def Obligations.StepKeepsEngine : Prop :=
  ∀ s t : State, EngineInv s.bridge → step s = .next t → EngineInv t.bridge

/-- Every step keeps every packet in the pool of its class and the receive accounts true: occupied counts the pool, and
between two trainings occupied plus outstanding plus freed is the pool of the active plan. -/
def Obligations.StepKeepsCredit : Prop :=
  ∀ s t : State, CreditInv s.bridge → step s = .next t → CreditInv t.bridge

/-- Every step keeps each window's in-flight count equal to the number of Query entries that name it. -/
def Obligations.StepKeepsReferences : Prop :=
  ∀ s t : State, ReferenceInv s.bridge → step s = .next t → ReferenceInv t.bridge

/-- All six invariants hold right after reset. -/
def Obligations.InvariantsHoldAtReset : Prop :=
  CaptureInv State.reset.bridge ∧ QueueInv State.reset.bridge ∧ ReplayInv State.reset.bridge ∧
    EngineInv State.reset.bridge ∧ CreditInv State.reset.bridge ∧ ReferenceInv State.reset.bridge
end

