-- ==== Sys2Proof/Laws/State.lean ====
section
/-! SUPPORT. One lemma for each field and each update of the part's state: what an update leaves, and what it writes. -/

namespace Sys2Proof.Laws

open Sys2Proof.Machine

/-! ### The small containers -/

@[simp] theorem perPort_get_set_self {α : Type} (x : PerPort α) (p : Port) (a : α) : (x.set p a).get p = a := by
  cases p <;> rfl

@[simp] theorem perPort_get_set_other {α : Type} (x : PerPort α) {p q : Port} (a : α) (h : q ≠ p) :
    (x.set p a).get q = x.get q := by
  cases p <;> cases q <;> first | rfl | exact absurd rfl h

@[simp] theorem perClass_get_set_self {α : Type} (x : PerClass α) (c : Cls) (a : α) : (x.set c a).get c = a := by
  cases c <;> rfl

@[simp] theorem perClass_get_set_other {α : Type} (x : PerClass α) {c d : Cls} (a : α) (h : d ≠ c) :
    (x.set c a).get d = x.get d := by
  cases c <;> cases d <;> first | rfl | exact absurd rfl h

@[simp] theorem perDir_get_set_self {α : Type} (x : PerDir α) (d : Dir) (a : α) : (x.set d a).get d = a := by
  cases d <;> rfl

@[simp] theorem perDir_get_set_other {α : Type} (x : PerDir α) {d e : Dir} (a : α) (h : e ≠ d) :
    (x.set d a).get e = x.get e := by
  cases d <;> cases e <;> first | rfl | exact absurd rfl h

/-! ### What an update leaves -/

@[simp] theorem timeBase_setPort (b : Bridge) (p : Port) (x : PortState) : (b.setPort p x).timeBase = b.timeBase := rfl
@[simp] theorem rstLow_setPort (b : Bridge) (p : Port) (x : PortState) : (b.setPort p x).rstLow = b.rstLow := rfl
@[simp] theorem unit_setPort (b : Bridge) (p : Port) (x : PortState) : (b.setPort p x).unit = b.unit := rfl
@[simp] theorem slots_setPort (b : Bridge) (p : Port) (x : PortState) : (b.setPort p x).slots = b.slots := rfl
@[simp] theorem groups_setPort (b : Bridge) (p : Port) (x : PortState) : (b.setPort p x).groups = b.groups := rfl
@[simp] theorem miss_setPort (b : Bridge) (p : Port) (x : PortState) : (b.setPort p x).miss = b.miss := rfl
@[simp] theorem tables_setPort (b : Bridge) (p : Port) (x : PortState) : (b.setPort p x).tables = b.tables := rfl
@[simp] theorem deadlineMs_setPort (b : Bridge) (p : Port) (x : PortState) : (b.setPort p x).deadlineMs = b.deadlineMs := rfl
@[simp] theorem quarantineMs_setPort (b : Bridge) (p : Port) (x : PortState) : (b.setPort p x).quarantineMs = b.quarantineMs := rfl
@[simp] theorem lines_setPort (b : Bridge) (p : Port) (x : PortState) : (b.setPort p x).lines = b.lines := rfl
@[simp] theorem engine_setPort (b : Bridge) (p : Port) (x : PortState) : (b.setPort p x).engine = b.engine := rfl
@[simp] theorem capture_setPort (b : Bridge) (p : Port) (x : PortState) : (b.setPort p x).capture = b.capture := rfl
@[simp] theorem overflowed_setPort (b : Bridge) (p : Port) (x : PortState) : (b.setPort p x).overflowed = b.overflowed := rfl
@[simp] theorem freeCtr_setPort (b : Bridge) (p : Port) (x : PortState) : (b.setPort p x).freeCtr = b.freeCtr := rfl

@[simp] theorem timeBase_onPort (b : Bridge) (p : Port) (f : PortState → PortState) : (b.onPort p f).timeBase = b.timeBase := rfl
@[simp] theorem rstLow_onPort (b : Bridge) (p : Port) (f : PortState → PortState) : (b.onPort p f).rstLow = b.rstLow := rfl
@[simp] theorem unit_onPort (b : Bridge) (p : Port) (f : PortState → PortState) : (b.onPort p f).unit = b.unit := rfl
@[simp] theorem slots_onPort (b : Bridge) (p : Port) (f : PortState → PortState) : (b.onPort p f).slots = b.slots := rfl
@[simp] theorem groups_onPort (b : Bridge) (p : Port) (f : PortState → PortState) : (b.onPort p f).groups = b.groups := rfl
@[simp] theorem miss_onPort (b : Bridge) (p : Port) (f : PortState → PortState) : (b.onPort p f).miss = b.miss := rfl
@[simp] theorem tables_onPort (b : Bridge) (p : Port) (f : PortState → PortState) : (b.onPort p f).tables = b.tables := rfl
@[simp] theorem deadlineMs_onPort (b : Bridge) (p : Port) (f : PortState → PortState) : (b.onPort p f).deadlineMs = b.deadlineMs := rfl
@[simp] theorem quarantineMs_onPort (b : Bridge) (p : Port) (f : PortState → PortState) : (b.onPort p f).quarantineMs = b.quarantineMs := rfl
@[simp] theorem lines_onPort (b : Bridge) (p : Port) (f : PortState → PortState) : (b.onPort p f).lines = b.lines := rfl
@[simp] theorem engine_onPort (b : Bridge) (p : Port) (f : PortState → PortState) : (b.onPort p f).engine = b.engine := rfl
@[simp] theorem capture_onPort (b : Bridge) (p : Port) (f : PortState → PortState) : (b.onPort p f).capture = b.capture := rfl
@[simp] theorem overflowed_onPort (b : Bridge) (p : Port) (f : PortState → PortState) : (b.onPort p f).overflowed = b.overflowed := rfl
@[simp] theorem freeCtr_onPort (b : Bridge) (p : Port) (f : PortState → PortState) : (b.onPort p f).freeCtr = b.freeCtr := rfl

@[simp] theorem timeBase_setLinkState (b : Bridge) (p : Port) (x : LinkState) : (b.setLinkState p x).timeBase = b.timeBase := rfl
@[simp] theorem rstLow_setLinkState (b : Bridge) (p : Port) (x : LinkState) : (b.setLinkState p x).rstLow = b.rstLow := rfl
@[simp] theorem unit_setLinkState (b : Bridge) (p : Port) (x : LinkState) : (b.setLinkState p x).unit = b.unit := rfl
@[simp] theorem slots_setLinkState (b : Bridge) (p : Port) (x : LinkState) : (b.setLinkState p x).slots = b.slots := rfl
@[simp] theorem groups_setLinkState (b : Bridge) (p : Port) (x : LinkState) : (b.setLinkState p x).groups = b.groups := rfl
@[simp] theorem miss_setLinkState (b : Bridge) (p : Port) (x : LinkState) : (b.setLinkState p x).miss = b.miss := rfl
@[simp] theorem tables_setLinkState (b : Bridge) (p : Port) (x : LinkState) : (b.setLinkState p x).tables = b.tables := rfl
@[simp] theorem deadlineMs_setLinkState (b : Bridge) (p : Port) (x : LinkState) : (b.setLinkState p x).deadlineMs = b.deadlineMs := rfl
@[simp] theorem quarantineMs_setLinkState (b : Bridge) (p : Port) (x : LinkState) : (b.setLinkState p x).quarantineMs = b.quarantineMs := rfl
@[simp] theorem lines_setLinkState (b : Bridge) (p : Port) (x : LinkState) : (b.setLinkState p x).lines = b.lines := rfl
@[simp] theorem engine_setLinkState (b : Bridge) (p : Port) (x : LinkState) : (b.setLinkState p x).engine = b.engine := rfl
@[simp] theorem capture_setLinkState (b : Bridge) (p : Port) (x : LinkState) : (b.setLinkState p x).capture = b.capture := rfl
@[simp] theorem overflowed_setLinkState (b : Bridge) (p : Port) (x : LinkState) : (b.setLinkState p x).overflowed = b.overflowed := rfl
@[simp] theorem freeCtr_setLinkState (b : Bridge) (p : Port) (x : LinkState) : (b.setLinkState p x).freeCtr = b.freeCtr := rfl

@[simp] theorem timeBase_setQueue (b : Bridge) (p : Port) (c : Cls) (qs : List Queued) : (b.setQueue p c qs).timeBase = b.timeBase := rfl
@[simp] theorem rstLow_setQueue (b : Bridge) (p : Port) (c : Cls) (qs : List Queued) : (b.setQueue p c qs).rstLow = b.rstLow := rfl
@[simp] theorem unit_setQueue (b : Bridge) (p : Port) (c : Cls) (qs : List Queued) : (b.setQueue p c qs).unit = b.unit := rfl
@[simp] theorem slots_setQueue (b : Bridge) (p : Port) (c : Cls) (qs : List Queued) : (b.setQueue p c qs).slots = b.slots := rfl
@[simp] theorem groups_setQueue (b : Bridge) (p : Port) (c : Cls) (qs : List Queued) : (b.setQueue p c qs).groups = b.groups := rfl
@[simp] theorem miss_setQueue (b : Bridge) (p : Port) (c : Cls) (qs : List Queued) : (b.setQueue p c qs).miss = b.miss := rfl
@[simp] theorem tables_setQueue (b : Bridge) (p : Port) (c : Cls) (qs : List Queued) : (b.setQueue p c qs).tables = b.tables := rfl
@[simp] theorem deadlineMs_setQueue (b : Bridge) (p : Port) (c : Cls) (qs : List Queued) : (b.setQueue p c qs).deadlineMs = b.deadlineMs := rfl
@[simp] theorem quarantineMs_setQueue (b : Bridge) (p : Port) (c : Cls) (qs : List Queued) : (b.setQueue p c qs).quarantineMs = b.quarantineMs := rfl
@[simp] theorem lines_setQueue (b : Bridge) (p : Port) (c : Cls) (qs : List Queued) : (b.setQueue p c qs).lines = b.lines := rfl
@[simp] theorem engine_setQueue (b : Bridge) (p : Port) (c : Cls) (qs : List Queued) : (b.setQueue p c qs).engine = b.engine := rfl
@[simp] theorem capture_setQueue (b : Bridge) (p : Port) (c : Cls) (qs : List Queued) : (b.setQueue p c qs).capture = b.capture := rfl
@[simp] theorem overflowed_setQueue (b : Bridge) (p : Port) (c : Cls) (qs : List Queued) : (b.setQueue p c qs).overflowed = b.overflowed := rfl
@[simp] theorem freeCtr_setQueue (b : Bridge) (p : Port) (c : Cls) (qs : List Queued) : (b.setQueue p c qs).freeCtr = b.freeCtr := rfl

@[simp] theorem timeBase_setPool (b : Bridge) (p : Port) (c : Cls) (qs : List Packet) : (b.setPool p c qs).timeBase = b.timeBase := rfl
@[simp] theorem rstLow_setPool (b : Bridge) (p : Port) (c : Cls) (qs : List Packet) : (b.setPool p c qs).rstLow = b.rstLow := rfl
@[simp] theorem unit_setPool (b : Bridge) (p : Port) (c : Cls) (qs : List Packet) : (b.setPool p c qs).unit = b.unit := rfl
@[simp] theorem slots_setPool (b : Bridge) (p : Port) (c : Cls) (qs : List Packet) : (b.setPool p c qs).slots = b.slots := rfl
@[simp] theorem groups_setPool (b : Bridge) (p : Port) (c : Cls) (qs : List Packet) : (b.setPool p c qs).groups = b.groups := rfl
@[simp] theorem miss_setPool (b : Bridge) (p : Port) (c : Cls) (qs : List Packet) : (b.setPool p c qs).miss = b.miss := rfl
@[simp] theorem tables_setPool (b : Bridge) (p : Port) (c : Cls) (qs : List Packet) : (b.setPool p c qs).tables = b.tables := rfl
@[simp] theorem deadlineMs_setPool (b : Bridge) (p : Port) (c : Cls) (qs : List Packet) : (b.setPool p c qs).deadlineMs = b.deadlineMs := rfl
@[simp] theorem quarantineMs_setPool (b : Bridge) (p : Port) (c : Cls) (qs : List Packet) : (b.setPool p c qs).quarantineMs = b.quarantineMs := rfl
@[simp] theorem lines_setPool (b : Bridge) (p : Port) (c : Cls) (qs : List Packet) : (b.setPool p c qs).lines = b.lines := rfl
@[simp] theorem engine_setPool (b : Bridge) (p : Port) (c : Cls) (qs : List Packet) : (b.setPool p c qs).engine = b.engine := rfl
@[simp] theorem capture_setPool (b : Bridge) (p : Port) (c : Cls) (qs : List Packet) : (b.setPool p c qs).capture = b.capture := rfl
@[simp] theorem overflowed_setPool (b : Bridge) (p : Port) (c : Cls) (qs : List Packet) : (b.setPool p c qs).overflowed = b.overflowed := rfl
@[simp] theorem freeCtr_setPool (b : Bridge) (p : Port) (c : Cls) (qs : List Packet) : (b.setPool p c qs).freeCtr = b.freeCtr := rfl

@[simp] theorem timeBase_onAccount (b : Bridge) (p : Port) (c : Cls) (f : RxAccount → RxAccount) : (b.onAccount p c f).timeBase = b.timeBase := rfl
@[simp] theorem rstLow_onAccount (b : Bridge) (p : Port) (c : Cls) (f : RxAccount → RxAccount) : (b.onAccount p c f).rstLow = b.rstLow := rfl
@[simp] theorem unit_onAccount (b : Bridge) (p : Port) (c : Cls) (f : RxAccount → RxAccount) : (b.onAccount p c f).unit = b.unit := rfl
@[simp] theorem slots_onAccount (b : Bridge) (p : Port) (c : Cls) (f : RxAccount → RxAccount) : (b.onAccount p c f).slots = b.slots := rfl
@[simp] theorem groups_onAccount (b : Bridge) (p : Port) (c : Cls) (f : RxAccount → RxAccount) : (b.onAccount p c f).groups = b.groups := rfl
@[simp] theorem miss_onAccount (b : Bridge) (p : Port) (c : Cls) (f : RxAccount → RxAccount) : (b.onAccount p c f).miss = b.miss := rfl
@[simp] theorem tables_onAccount (b : Bridge) (p : Port) (c : Cls) (f : RxAccount → RxAccount) : (b.onAccount p c f).tables = b.tables := rfl
@[simp] theorem deadlineMs_onAccount (b : Bridge) (p : Port) (c : Cls) (f : RxAccount → RxAccount) : (b.onAccount p c f).deadlineMs = b.deadlineMs := rfl
@[simp] theorem quarantineMs_onAccount (b : Bridge) (p : Port) (c : Cls) (f : RxAccount → RxAccount) : (b.onAccount p c f).quarantineMs = b.quarantineMs := rfl
@[simp] theorem lines_onAccount (b : Bridge) (p : Port) (c : Cls) (f : RxAccount → RxAccount) : (b.onAccount p c f).lines = b.lines := rfl
@[simp] theorem engine_onAccount (b : Bridge) (p : Port) (c : Cls) (f : RxAccount → RxAccount) : (b.onAccount p c f).engine = b.engine := rfl
@[simp] theorem capture_onAccount (b : Bridge) (p : Port) (c : Cls) (f : RxAccount → RxAccount) : (b.onAccount p c f).capture = b.capture := rfl
@[simp] theorem overflowed_onAccount (b : Bridge) (p : Port) (c : Cls) (f : RxAccount → RxAccount) : (b.onAccount p c f).overflowed = b.overflowed := rfl
@[simp] theorem freeCtr_onAccount (b : Bridge) (p : Port) (c : Cls) (f : RxAccount → RxAccount) : (b.onAccount p c f).freeCtr = b.freeCtr := rfl

@[simp] theorem timeBase_onSend (b : Bridge) (p : Port) (f : SendSide → SendSide) : (b.onSend p f).timeBase = b.timeBase := rfl
@[simp] theorem rstLow_onSend (b : Bridge) (p : Port) (f : SendSide → SendSide) : (b.onSend p f).rstLow = b.rstLow := rfl
@[simp] theorem unit_onSend (b : Bridge) (p : Port) (f : SendSide → SendSide) : (b.onSend p f).unit = b.unit := rfl
@[simp] theorem slots_onSend (b : Bridge) (p : Port) (f : SendSide → SendSide) : (b.onSend p f).slots = b.slots := rfl
@[simp] theorem groups_onSend (b : Bridge) (p : Port) (f : SendSide → SendSide) : (b.onSend p f).groups = b.groups := rfl
@[simp] theorem miss_onSend (b : Bridge) (p : Port) (f : SendSide → SendSide) : (b.onSend p f).miss = b.miss := rfl
@[simp] theorem tables_onSend (b : Bridge) (p : Port) (f : SendSide → SendSide) : (b.onSend p f).tables = b.tables := rfl
@[simp] theorem deadlineMs_onSend (b : Bridge) (p : Port) (f : SendSide → SendSide) : (b.onSend p f).deadlineMs = b.deadlineMs := rfl
@[simp] theorem quarantineMs_onSend (b : Bridge) (p : Port) (f : SendSide → SendSide) : (b.onSend p f).quarantineMs = b.quarantineMs := rfl
@[simp] theorem lines_onSend (b : Bridge) (p : Port) (f : SendSide → SendSide) : (b.onSend p f).lines = b.lines := rfl
@[simp] theorem engine_onSend (b : Bridge) (p : Port) (f : SendSide → SendSide) : (b.onSend p f).engine = b.engine := rfl
@[simp] theorem capture_onSend (b : Bridge) (p : Port) (f : SendSide → SendSide) : (b.onSend p f).capture = b.capture := rfl
@[simp] theorem overflowed_onSend (b : Bridge) (p : Port) (f : SendSide → SendSide) : (b.onSend p f).overflowed = b.overflowed := rfl
@[simp] theorem freeCtr_onSend (b : Bridge) (p : Port) (f : SendSide → SendSide) : (b.onSend p f).freeCtr = b.freeCtr := rfl

@[simp] theorem timeBase_onRecv (b : Bridge) (p : Port) (f : RecvSide → RecvSide) : (b.onRecv p f).timeBase = b.timeBase := rfl
@[simp] theorem rstLow_onRecv (b : Bridge) (p : Port) (f : RecvSide → RecvSide) : (b.onRecv p f).rstLow = b.rstLow := rfl
@[simp] theorem unit_onRecv (b : Bridge) (p : Port) (f : RecvSide → RecvSide) : (b.onRecv p f).unit = b.unit := rfl
@[simp] theorem slots_onRecv (b : Bridge) (p : Port) (f : RecvSide → RecvSide) : (b.onRecv p f).slots = b.slots := rfl
@[simp] theorem groups_onRecv (b : Bridge) (p : Port) (f : RecvSide → RecvSide) : (b.onRecv p f).groups = b.groups := rfl
@[simp] theorem miss_onRecv (b : Bridge) (p : Port) (f : RecvSide → RecvSide) : (b.onRecv p f).miss = b.miss := rfl
@[simp] theorem tables_onRecv (b : Bridge) (p : Port) (f : RecvSide → RecvSide) : (b.onRecv p f).tables = b.tables := rfl
@[simp] theorem deadlineMs_onRecv (b : Bridge) (p : Port) (f : RecvSide → RecvSide) : (b.onRecv p f).deadlineMs = b.deadlineMs := rfl
@[simp] theorem quarantineMs_onRecv (b : Bridge) (p : Port) (f : RecvSide → RecvSide) : (b.onRecv p f).quarantineMs = b.quarantineMs := rfl
@[simp] theorem lines_onRecv (b : Bridge) (p : Port) (f : RecvSide → RecvSide) : (b.onRecv p f).lines = b.lines := rfl
@[simp] theorem engine_onRecv (b : Bridge) (p : Port) (f : RecvSide → RecvSide) : (b.onRecv p f).engine = b.engine := rfl
@[simp] theorem capture_onRecv (b : Bridge) (p : Port) (f : RecvSide → RecvSide) : (b.onRecv p f).capture = b.capture := rfl
@[simp] theorem overflowed_onRecv (b : Bridge) (p : Port) (f : RecvSide → RecvSide) : (b.onRecv p f).overflowed = b.overflowed := rfl
@[simp] theorem freeCtr_onRecv (b : Bridge) (p : Port) (f : RecvSide → RecvSide) : (b.onRecv p f).freeCtr = b.freeCtr := rfl

@[simp] theorem timeBase_onTraining (b : Bridge) (p : Port) (f : Training → Training) : (b.onTraining p f).timeBase = b.timeBase := rfl
@[simp] theorem rstLow_onTraining (b : Bridge) (p : Port) (f : Training → Training) : (b.onTraining p f).rstLow = b.rstLow := rfl
@[simp] theorem unit_onTraining (b : Bridge) (p : Port) (f : Training → Training) : (b.onTraining p f).unit = b.unit := rfl
@[simp] theorem slots_onTraining (b : Bridge) (p : Port) (f : Training → Training) : (b.onTraining p f).slots = b.slots := rfl
@[simp] theorem groups_onTraining (b : Bridge) (p : Port) (f : Training → Training) : (b.onTraining p f).groups = b.groups := rfl
@[simp] theorem miss_onTraining (b : Bridge) (p : Port) (f : Training → Training) : (b.onTraining p f).miss = b.miss := rfl
@[simp] theorem tables_onTraining (b : Bridge) (p : Port) (f : Training → Training) : (b.onTraining p f).tables = b.tables := rfl
@[simp] theorem deadlineMs_onTraining (b : Bridge) (p : Port) (f : Training → Training) : (b.onTraining p f).deadlineMs = b.deadlineMs := rfl
@[simp] theorem quarantineMs_onTraining (b : Bridge) (p : Port) (f : Training → Training) : (b.onTraining p f).quarantineMs = b.quarantineMs := rfl
@[simp] theorem lines_onTraining (b : Bridge) (p : Port) (f : Training → Training) : (b.onTraining p f).lines = b.lines := rfl
@[simp] theorem engine_onTraining (b : Bridge) (p : Port) (f : Training → Training) : (b.onTraining p f).engine = b.engine := rfl
@[simp] theorem capture_onTraining (b : Bridge) (p : Port) (f : Training → Training) : (b.onTraining p f).capture = b.capture := rfl
@[simp] theorem overflowed_onTraining (b : Bridge) (p : Port) (f : Training → Training) : (b.onTraining p f).overflowed = b.overflowed := rfl
@[simp] theorem freeCtr_onTraining (b : Bridge) (p : Port) (f : Training → Training) : (b.onTraining p f).freeCtr = b.freeCtr := rfl

@[simp] theorem timeBase_onRecord (b : Bridge) (p : Port) (f : PortRecord → PortRecord) : (b.onRecord p f).timeBase = b.timeBase := rfl
@[simp] theorem rstLow_onRecord (b : Bridge) (p : Port) (f : PortRecord → PortRecord) : (b.onRecord p f).rstLow = b.rstLow := rfl
@[simp] theorem unit_onRecord (b : Bridge) (p : Port) (f : PortRecord → PortRecord) : (b.onRecord p f).unit = b.unit := rfl
@[simp] theorem slots_onRecord (b : Bridge) (p : Port) (f : PortRecord → PortRecord) : (b.onRecord p f).slots = b.slots := rfl
@[simp] theorem groups_onRecord (b : Bridge) (p : Port) (f : PortRecord → PortRecord) : (b.onRecord p f).groups = b.groups := rfl
@[simp] theorem miss_onRecord (b : Bridge) (p : Port) (f : PortRecord → PortRecord) : (b.onRecord p f).miss = b.miss := rfl
@[simp] theorem tables_onRecord (b : Bridge) (p : Port) (f : PortRecord → PortRecord) : (b.onRecord p f).tables = b.tables := rfl
@[simp] theorem deadlineMs_onRecord (b : Bridge) (p : Port) (f : PortRecord → PortRecord) : (b.onRecord p f).deadlineMs = b.deadlineMs := rfl
@[simp] theorem quarantineMs_onRecord (b : Bridge) (p : Port) (f : PortRecord → PortRecord) : (b.onRecord p f).quarantineMs = b.quarantineMs := rfl
@[simp] theorem lines_onRecord (b : Bridge) (p : Port) (f : PortRecord → PortRecord) : (b.onRecord p f).lines = b.lines := rfl
@[simp] theorem engine_onRecord (b : Bridge) (p : Port) (f : PortRecord → PortRecord) : (b.onRecord p f).engine = b.engine := rfl
@[simp] theorem capture_onRecord (b : Bridge) (p : Port) (f : PortRecord → PortRecord) : (b.onRecord p f).capture = b.capture := rfl
@[simp] theorem overflowed_onRecord (b : Bridge) (p : Port) (f : PortRecord → PortRecord) : (b.onRecord p f).overflowed = b.overflowed := rfl
@[simp] theorem freeCtr_onRecord (b : Bridge) (p : Port) (f : PortRecord → PortRecord) : (b.onRecord p f).freeCtr = b.freeCtr := rfl

@[simp] theorem emitInUse_eq (b : Bridge) (p : Port) (i : LaneItem) :
    b.emitInUse p i = b.emit p ⟨i, (b.port p).record.width⟩ := rfl

@[simp] theorem timeBase_emit (b : Bridge) (p : Port) (x : Sent) : (b.emit p x).timeBase = b.timeBase := rfl
@[simp] theorem rstLow_emit (b : Bridge) (p : Port) (x : Sent) : (b.emit p x).rstLow = b.rstLow := rfl
@[simp] theorem unit_emit (b : Bridge) (p : Port) (x : Sent) : (b.emit p x).unit = b.unit := rfl
@[simp] theorem slots_emit (b : Bridge) (p : Port) (x : Sent) : (b.emit p x).slots = b.slots := rfl
@[simp] theorem groups_emit (b : Bridge) (p : Port) (x : Sent) : (b.emit p x).groups = b.groups := rfl
@[simp] theorem miss_emit (b : Bridge) (p : Port) (x : Sent) : (b.emit p x).miss = b.miss := rfl
@[simp] theorem tables_emit (b : Bridge) (p : Port) (x : Sent) : (b.emit p x).tables = b.tables := rfl
@[simp] theorem deadlineMs_emit (b : Bridge) (p : Port) (x : Sent) : (b.emit p x).deadlineMs = b.deadlineMs := rfl
@[simp] theorem quarantineMs_emit (b : Bridge) (p : Port) (x : Sent) : (b.emit p x).quarantineMs = b.quarantineMs := rfl
@[simp] theorem lines_emit (b : Bridge) (p : Port) (x : Sent) : (b.emit p x).lines = b.lines := rfl
@[simp] theorem engine_emit (b : Bridge) (p : Port) (x : Sent) : (b.emit p x).engine = b.engine := rfl
@[simp] theorem capture_emit (b : Bridge) (p : Port) (x : Sent) : (b.emit p x).capture = b.capture := rfl
@[simp] theorem overflowed_emit (b : Bridge) (p : Port) (x : Sent) : (b.emit p x).overflowed = b.overflowed := rfl
@[simp] theorem freeCtr_emit (b : Bridge) (p : Port) (x : Sent) : (b.emit p x).freeCtr = b.freeCtr := rfl

@[simp] theorem timeBase_setEntry (b : Bridge) (d : Dir) (e : Fin 64) (x : Entry) : (b.setEntry d e x).timeBase = b.timeBase := rfl
@[simp] theorem rstLow_setEntry (b : Bridge) (d : Dir) (e : Fin 64) (x : Entry) : (b.setEntry d e x).rstLow = b.rstLow := rfl
@[simp] theorem unit_setEntry (b : Bridge) (d : Dir) (e : Fin 64) (x : Entry) : (b.setEntry d e x).unit = b.unit := rfl
@[simp] theorem slots_setEntry (b : Bridge) (d : Dir) (e : Fin 64) (x : Entry) : (b.setEntry d e x).slots = b.slots := rfl
@[simp] theorem groups_setEntry (b : Bridge) (d : Dir) (e : Fin 64) (x : Entry) : (b.setEntry d e x).groups = b.groups := rfl
@[simp] theorem miss_setEntry (b : Bridge) (d : Dir) (e : Fin 64) (x : Entry) : (b.setEntry d e x).miss = b.miss := rfl
@[simp] theorem deadlineMs_setEntry (b : Bridge) (d : Dir) (e : Fin 64) (x : Entry) : (b.setEntry d e x).deadlineMs = b.deadlineMs := rfl
@[simp] theorem quarantineMs_setEntry (b : Bridge) (d : Dir) (e : Fin 64) (x : Entry) : (b.setEntry d e x).quarantineMs = b.quarantineMs := rfl
@[simp] theorem lines_setEntry (b : Bridge) (d : Dir) (e : Fin 64) (x : Entry) : (b.setEntry d e x).lines = b.lines := rfl
@[simp] theorem engine_setEntry (b : Bridge) (d : Dir) (e : Fin 64) (x : Entry) : (b.setEntry d e x).engine = b.engine := rfl
@[simp] theorem capture_setEntry (b : Bridge) (d : Dir) (e : Fin 64) (x : Entry) : (b.setEntry d e x).capture = b.capture := rfl
@[simp] theorem overflowed_setEntry (b : Bridge) (d : Dir) (e : Fin 64) (x : Entry) : (b.setEntry d e x).overflowed = b.overflowed := rfl
@[simp] theorem freeCtr_setEntry (b : Bridge) (d : Dir) (e : Fin 64) (x : Entry) : (b.setEntry d e x).freeCtr = b.freeCtr := rfl
@[simp] theorem ports_setEntry (b : Bridge) (d : Dir) (e : Fin 64) (x : Entry) : (b.setEntry d e x).ports = b.ports := rfl

@[simp] theorem timeBase_setSlot (b : Bridge) (i : Fin 32) (x : Slot) : (b.setSlot i x).timeBase = b.timeBase := rfl
@[simp] theorem rstLow_setSlot (b : Bridge) (i : Fin 32) (x : Slot) : (b.setSlot i x).rstLow = b.rstLow := rfl
@[simp] theorem unit_setSlot (b : Bridge) (i : Fin 32) (x : Slot) : (b.setSlot i x).unit = b.unit := rfl
@[simp] theorem groups_setSlot (b : Bridge) (i : Fin 32) (x : Slot) : (b.setSlot i x).groups = b.groups := rfl
@[simp] theorem miss_setSlot (b : Bridge) (i : Fin 32) (x : Slot) : (b.setSlot i x).miss = b.miss := rfl
@[simp] theorem tables_setSlot (b : Bridge) (i : Fin 32) (x : Slot) : (b.setSlot i x).tables = b.tables := rfl
@[simp] theorem deadlineMs_setSlot (b : Bridge) (i : Fin 32) (x : Slot) : (b.setSlot i x).deadlineMs = b.deadlineMs := rfl
@[simp] theorem quarantineMs_setSlot (b : Bridge) (i : Fin 32) (x : Slot) : (b.setSlot i x).quarantineMs = b.quarantineMs := rfl
@[simp] theorem lines_setSlot (b : Bridge) (i : Fin 32) (x : Slot) : (b.setSlot i x).lines = b.lines := rfl
@[simp] theorem engine_setSlot (b : Bridge) (i : Fin 32) (x : Slot) : (b.setSlot i x).engine = b.engine := rfl
@[simp] theorem capture_setSlot (b : Bridge) (i : Fin 32) (x : Slot) : (b.setSlot i x).capture = b.capture := rfl
@[simp] theorem overflowed_setSlot (b : Bridge) (i : Fin 32) (x : Slot) : (b.setSlot i x).overflowed = b.overflowed := rfl
@[simp] theorem freeCtr_setSlot (b : Bridge) (i : Fin 32) (x : Slot) : (b.setSlot i x).freeCtr = b.freeCtr := rfl
@[simp] theorem ports_setSlot (b : Bridge) (i : Fin 32) (x : Slot) : (b.setSlot i x).ports = b.ports := rfl

@[simp] theorem timeBase_setLine (b : Bridge) (i : Fin 64) (x : Line) : (b.setLine i x).timeBase = b.timeBase := rfl
@[simp] theorem rstLow_setLine (b : Bridge) (i : Fin 64) (x : Line) : (b.setLine i x).rstLow = b.rstLow := rfl
@[simp] theorem unit_setLine (b : Bridge) (i : Fin 64) (x : Line) : (b.setLine i x).unit = b.unit := rfl
@[simp] theorem slots_setLine (b : Bridge) (i : Fin 64) (x : Line) : (b.setLine i x).slots = b.slots := rfl
@[simp] theorem groups_setLine (b : Bridge) (i : Fin 64) (x : Line) : (b.setLine i x).groups = b.groups := rfl
@[simp] theorem miss_setLine (b : Bridge) (i : Fin 64) (x : Line) : (b.setLine i x).miss = b.miss := rfl
@[simp] theorem tables_setLine (b : Bridge) (i : Fin 64) (x : Line) : (b.setLine i x).tables = b.tables := rfl
@[simp] theorem deadlineMs_setLine (b : Bridge) (i : Fin 64) (x : Line) : (b.setLine i x).deadlineMs = b.deadlineMs := rfl
@[simp] theorem quarantineMs_setLine (b : Bridge) (i : Fin 64) (x : Line) : (b.setLine i x).quarantineMs = b.quarantineMs := rfl
@[simp] theorem engine_setLine (b : Bridge) (i : Fin 64) (x : Line) : (b.setLine i x).engine = b.engine := rfl
@[simp] theorem capture_setLine (b : Bridge) (i : Fin 64) (x : Line) : (b.setLine i x).capture = b.capture := rfl
@[simp] theorem overflowed_setLine (b : Bridge) (i : Fin 64) (x : Line) : (b.setLine i x).overflowed = b.overflowed := rfl
@[simp] theorem freeCtr_setLine (b : Bridge) (i : Fin 64) (x : Line) : (b.setLine i x).freeCtr = b.freeCtr := rfl
@[simp] theorem ports_setLine (b : Bridge) (i : Fin 64) (x : Line) : (b.setLine i x).ports = b.ports := rfl

@[simp] theorem timeBase_onEngine (b : Bridge) (f : Engine → Engine) : (b.onEngine f).timeBase = b.timeBase := rfl
@[simp] theorem rstLow_onEngine (b : Bridge) (f : Engine → Engine) : (b.onEngine f).rstLow = b.rstLow := rfl
@[simp] theorem unit_onEngine (b : Bridge) (f : Engine → Engine) : (b.onEngine f).unit = b.unit := rfl
@[simp] theorem slots_onEngine (b : Bridge) (f : Engine → Engine) : (b.onEngine f).slots = b.slots := rfl
@[simp] theorem groups_onEngine (b : Bridge) (f : Engine → Engine) : (b.onEngine f).groups = b.groups := rfl
@[simp] theorem miss_onEngine (b : Bridge) (f : Engine → Engine) : (b.onEngine f).miss = b.miss := rfl
@[simp] theorem tables_onEngine (b : Bridge) (f : Engine → Engine) : (b.onEngine f).tables = b.tables := rfl
@[simp] theorem deadlineMs_onEngine (b : Bridge) (f : Engine → Engine) : (b.onEngine f).deadlineMs = b.deadlineMs := rfl
@[simp] theorem quarantineMs_onEngine (b : Bridge) (f : Engine → Engine) : (b.onEngine f).quarantineMs = b.quarantineMs := rfl
@[simp] theorem lines_onEngine (b : Bridge) (f : Engine → Engine) : (b.onEngine f).lines = b.lines := rfl
@[simp] theorem capture_onEngine (b : Bridge) (f : Engine → Engine) : (b.onEngine f).capture = b.capture := rfl
@[simp] theorem overflowed_onEngine (b : Bridge) (f : Engine → Engine) : (b.onEngine f).overflowed = b.overflowed := rfl
@[simp] theorem freeCtr_onEngine (b : Bridge) (f : Engine → Engine) : (b.onEngine f).freeCtr = b.freeCtr := rfl
@[simp] theorem ports_onEngine (b : Bridge) (f : Engine → Engine) : (b.onEngine f).ports = b.ports := rfl

/-! ### What an update writes -/

@[simp] theorem port_setPort_self (b : Bridge) (p : Port) (x : PortState) : (b.setPort p x).port p = x := by
  cases p <;> rfl

@[simp] theorem port_setPort_other (b : Bridge) {p q : Port} (x : PortState) (h : q ≠ p) :
    (b.setPort p x).port q = b.port q := by
  cases p <;> cases q <;> first | rfl | exact absurd rfl h

@[simp] theorem port_onPort_self (b : Bridge) (p : Port) (f : PortState → PortState) :
    (b.onPort p f).port p = f (b.port p) := by
  cases p <;> rfl

@[simp] theorem port_setLinkState_self (b : Bridge) (p : Port) (x : LinkState) :
    (b.setLinkState p x).port p =
      { b.port p with record := { (b.port p).record with state := x } } := by
  cases p <;> rfl

@[simp] theorem port_setQueue_self (b : Bridge) (p : Port) (c : Cls) (qs : List Queued) :
    (b.setQueue p c qs).port p =
      { b.port p with egress := { (b.port p).egress with queues := (b.port p).egress.queues.set c qs } } := by
  cases p <;> rfl

@[simp] theorem port_setPool_self (b : Bridge) (p : Port) (c : Cls) (qs : List Packet) :
    (b.setPool p c qs).port p =
      { b.port p with ingress := { (b.port p).ingress with pools := (b.port p).ingress.pools.set c qs } } := by
  cases p <;> rfl

@[simp] theorem port_onAccount_self (b : Bridge) (p : Port) (c : Cls) (f : RxAccount → RxAccount) :
    (b.onAccount p c f).port p =
      { b.port p with ingress := { (b.port p).ingress with account := (b.port p).ingress.account.set c (f ((b.port p).ingress.account.get c)) } } := by
  cases p <;> rfl

@[simp] theorem port_onSend_self (b : Bridge) (p : Port) (f : SendSide → SendSide) :
    (b.onSend p f).port p =
      { b.port p with send := f (b.port p).send } := by
  cases p <;> rfl

@[simp] theorem port_onRecv_self (b : Bridge) (p : Port) (f : RecvSide → RecvSide) :
    (b.onRecv p f).port p =
      { b.port p with recv := f (b.port p).recv } := by
  cases p <;> rfl

@[simp] theorem port_onTraining_self (b : Bridge) (p : Port) (f : Training → Training) :
    (b.onTraining p f).port p =
      { b.port p with training := f (b.port p).training } := by
  cases p <;> rfl

@[simp] theorem port_onRecord_self (b : Bridge) (p : Port) (f : PortRecord → PortRecord) :
    (b.onRecord p f).port p =
      { b.port p with record := f (b.port p).record } := by
  cases p <;> rfl

@[simp] theorem port_emit_self (b : Bridge) (p : Port) (x : Sent) :
    (b.emit p x).port p =
      { b.port p with out := (b.port p).out ++ [x] } := by
  cases p <;> rfl

@[simp] theorem port_onPort_other (b : Bridge) {p q : Port} (f : PortState → PortState) (h : q ≠ p) :
    (b.onPort p f).port q = b.port q := by
  cases p <;> cases q <;> first | rfl | exact absurd rfl h

@[simp] theorem port_setLinkState_other (b : Bridge) {p q : Port} (x : LinkState) (h : q ≠ p) :
    (b.setLinkState p x).port q = b.port q := by
  cases p <;> cases q <;> first | rfl | exact absurd rfl h

@[simp] theorem port_setQueue_other (b : Bridge) {p q : Port} (c : Cls) (qs : List Queued) (h : q ≠ p) :
    (b.setQueue p c qs).port q = b.port q := by
  cases p <;> cases q <;> first | rfl | exact absurd rfl h

@[simp] theorem port_setPool_other (b : Bridge) {p q : Port} (c : Cls) (qs : List Packet) (h : q ≠ p) :
    (b.setPool p c qs).port q = b.port q := by
  cases p <;> cases q <;> first | rfl | exact absurd rfl h

@[simp] theorem port_onAccount_other (b : Bridge) {p q : Port} (c : Cls) (f : RxAccount → RxAccount) (h : q ≠ p) :
    (b.onAccount p c f).port q = b.port q := by
  cases p <;> cases q <;> first | rfl | exact absurd rfl h

@[simp] theorem port_onSend_other (b : Bridge) {p q : Port} (f : SendSide → SendSide) (h : q ≠ p) :
    (b.onSend p f).port q = b.port q := by
  cases p <;> cases q <;> first | rfl | exact absurd rfl h

@[simp] theorem port_onRecv_other (b : Bridge) {p q : Port} (f : RecvSide → RecvSide) (h : q ≠ p) :
    (b.onRecv p f).port q = b.port q := by
  cases p <;> cases q <;> first | rfl | exact absurd rfl h

@[simp] theorem port_onTraining_other (b : Bridge) {p q : Port} (f : Training → Training) (h : q ≠ p) :
    (b.onTraining p f).port q = b.port q := by
  cases p <;> cases q <;> first | rfl | exact absurd rfl h

@[simp] theorem port_onRecord_other (b : Bridge) {p q : Port} (f : PortRecord → PortRecord) (h : q ≠ p) :
    (b.onRecord p f).port q = b.port q := by
  cases p <;> cases q <;> first | rfl | exact absurd rfl h

@[simp] theorem port_emit_other (b : Bridge) {p q : Port} (x : Sent) (h : q ≠ p) :
    (b.emit p x).port q = b.port q := by
  cases p <;> cases q <;> first | rfl | exact absurd rfl h

@[simp] theorem port_setEntry (b : Bridge) (d : Dir) (e : Fin 64) (x : Entry) (q : Port) : (b.setEntry d e x).port q = b.port q := rfl

@[simp] theorem port_setSlot (b : Bridge) (i : Fin 32) (x : Slot) (q : Port) : (b.setSlot i x).port q = b.port q := rfl

@[simp] theorem port_setLine (b : Bridge) (i : Fin 64) (x : Line) (q : Port) : (b.setLine i x).port q = b.port q := rfl

@[simp] theorem port_onEngine (b : Bridge) (f : Engine → Engine) (q : Port) : (b.onEngine f).port q = b.port q := rfl

@[simp] theorem entry_setEntry_self (b : Bridge) (d : Dir) (e : Fin 64) (x : Entry) : (b.setEntry d e x).entry d e = x := by
  cases d <;> simp [Bridge.entry, Bridge.setEntry, PerDir.get, PerDir.set]

@[simp] theorem entry_setEntry_other (b : Bridge) {d d' : Dir} {e e' : Fin 64} (x : Entry) (h : ¬(d' = d ∧ e' = e)) :
    (b.setEntry d e x).entry d' e' = b.entry d' e' := by
  cases d <;> cases d' <;>
    simp_all [Bridge.entry, Bridge.setEntry, PerDir.get, PerDir.set, Fin.ext_iff, eq_comm]

@[simp] theorem slot_setSlot_self (b : Bridge) (i : Fin 32) (x : Slot) : (b.setSlot i x).slot i = x := by
  simp [Bridge.slot, Bridge.setSlot]

@[simp] theorem slot_setSlot_other (b : Bridge) {i j : Fin 32} (x : Slot) (h : j ≠ i) :
    (b.setSlot i x).slot j = b.slot j := by
  simp_all [Bridge.slot, Bridge.setSlot, Fin.ext_iff, eq_comm]

@[simp] theorem line_setLine_self (b : Bridge) (i : Fin 64) (x : Line) : (b.setLine i x).line i = x := by
  simp [Bridge.line, Bridge.setLine]

@[simp] theorem line_setLine_other (b : Bridge) {i j : Fin 64} (x : Line) (h : j ≠ i) :
    (b.setLine i x).line j = b.line j := by
  simp_all [Bridge.line, Bridge.setLine, Fin.ext_iff, eq_comm]

@[simp] theorem engine_onEngine (b : Bridge) (f : Engine → Engine) : (b.onEngine f).engine = f b.engine := rfl

/-! ### Writing twice -/

@[simp] theorem setPort_setPort (b : Bridge) (p : Port) (x y : PortState) : (b.setPort p x).setPort p y = b.setPort p y := by
  cases p <;> rfl

@[simp] theorem setPort_port (b : Bridge) (p : Port) : b.setPort p (b.port p) = b := by
  cases p <;> rfl

@[simp] theorem setEntry_setEntry (b : Bridge) (d : Dir) (e : Fin 64) (x y : Entry) :
    (b.setEntry d e x).setEntry d e y = b.setEntry d e y := by
  cases d <;> simp [Bridge.setEntry, PerDir.get, PerDir.set]

@[simp] theorem setSlot_setSlot (b : Bridge) (i : Fin 32) (x y : Slot) :
    (b.setSlot i x).setSlot i y = b.setSlot i y := by
  simp [Bridge.setSlot]

@[simp] theorem setLine_setLine (b : Bridge) (i : Fin 64) (x y : Line) :
    (b.setLine i x).setLine i y = b.setLine i y := by
  simp [Bridge.setLine]

@[simp] theorem onEngine_onEngine (b : Bridge) (f g : Engine → Engine) :
    (b.onEngine f).onEngine g = b.onEngine fun e => g (f e) := rfl

/-! ### The state around the part -/

@[simp] theorem bridge_onBridge (s : State) (f : Bridge → Bridge) : (s.onBridge f).bridge = f s.bridge := rfl

@[simp] theorem pending_onBridge (s : State) (f : Bridge → Bridge) : (s.onBridge f).pending = s.pending := rfl

@[simp] theorem pending_event (s : State) (f : Bridge → Bridge) : (s.event f).pending = s.pending := rfl

/-- While RST_N is low an event changes nothing. -/
@[simp] theorem event_low (s : State) (f : Bridge → Bridge) (h : s.bridge.rstLow = true) : s.event f = s := by
  cases s; simp_all [State.event, State.onBridge]

/-- While RST_N is high an event acts on the part. -/
@[simp] theorem event_high (s : State) (f : Bridge → Bridge) (h : s.bridge.rstLow = false) : s.event f = s.onBridge f := by
  simp [State.event, State.onBridge, h]

end Sys2Proof.Laws
end

