-- ==== Sys2Proof/Laws/Management.lean ====
section
/-! SUPPORT. What an executed head answers: with `HeadReady` the row runs its effect, and an immediate reply is
`answered`, a deferred command `deferredAs`. -/

namespace Sys2Proof.Laws

open Sys2Proof.Machine Sys2Proof.Safety

/-- A ready head runs its row's effect. -/
theorem event_runHead_ready {s : State} {code : BitVec 6} {req : Nat} {c : Command} (h : HeadReady s code req c)
    (effect : Command → Bridge → Verdict) :
    s.event (runHead code req effect) = { s with bridge := (effect c s.bridge).settle c } := by
  obtain ⟨hr, hh, hf, hc, hi, he, ha⟩ := h
  rw [event_high s _ hr]
  have hq : ∃ rest, s.bridge.engine.queue = c :: rest := by
    cases hl : s.bridge.engine.queue with
    | nil => simp [hl] at hh
    | cons x xs => simp [hl] at hh; exact ⟨xs, by rw [hh]⟩
  obtain ⟨rest, hq⟩ := hq
  have hj : judge req effect c s.bridge = effect c s.bridge := by
    unfold judge
    rw [if_neg (by simp [hi]), if_neg ha, if_neg (by omega)]
  simp [State.onBridge, runHead, hq, hf, hc, hj]

theorem settle_answer (s : State) (c : Command) (status : Status) (data : List Byte) (b : Bridge) :
    { s with bridge := (Verdict.answer status data true b).settle c } = answered s c status data b := rfl

theorem settle_done (s : State) (c : Command) (data : List Byte) (b : Bridge) :
    { s with bridge := (done data b).settle c } = answered s c .ok data b := rfl

theorem settle_refuse (s : State) (c : Command) (status : Status) (b : Bridge) :
    { s with bridge := (refuse status b).settle c } = answered s c status [] b := rfl

theorem settle_defer (s : State) (c : Command) (op : DeferredOp) (b : Bridge) :
    { s with bridge := (Verdict.defer op b).settle c } = deferredAs s c op b := rfl

theorem port?_code (p : Port) : port? (Port.code p).toNat = some p := by cases p <;> rfl

/-- A number of 2 or more names no port. -/
theorem port?_none {v : Nat} (h : 2 ≤ v) : port? v = none := by
  match v, h with
  | v + 2, _ => rfl

theorem index?_val {n : Nat} (i : Fin n) : index? n i.val = some i := by simp [index?]

theorem index?_none {n v : Nat} (h : n ≤ v) : index? n v = none := by simp [index?]; omega

/-- A number of 4 or more is no port selector. -/
theorem selected?_none {v : Nat} (h : 4 ≤ v) : selected? v = none := by
  match v, h with
  | v + 4, _ => rfl

end Sys2Proof.Laws
end

