-- ==== Sys2Proof/Laws/Ops.lean ====
section
/-! SUPPORT. What the shared operations can do, each said once: admission, records, notifications and replies change
queues, lines, the capture queue and the engine's lists, and nothing else. -/

namespace Sys2Proof.Laws

open Sys2Proof.Machine

/-- What no push, record, notification or reply changes. A push to a PARKED port may start its wake, and no other port
state changes. -/
structure PushKeeps (b b' : Bridge) : Prop where
  timeBase : b'.timeBase = b.timeBase
  rstLow : b'.rstLow = b.rstLow
  unit : b'.unit = b.unit
  slots : b'.slots = b.slots
  groups : b'.groups = b.groups
  miss : b'.miss = b.miss
  tables : b'.tables = b.tables
  deadlineMs : b'.deadlineMs = b.deadlineMs
  quarantineMs : b'.quarantineMs = b.quarantineMs
  freeCtr : b'.freeCtr = b.freeCtr
  leafOpen : b'.engine.leafOpen = b.engine.leafOpen
  resetForwarding : b'.engine.resetForwarding = b.engine.resetForwarding
  ingress : ∀ q, (b'.port q).ingress = (b.port q).ingress
  credit : ∀ q, (b'.port q).credit = (b.port q).credit
  send : ∀ q, (b'.port q).send = (b.port q).send
  recv : ∀ q, (b'.port q).recv = (b.port q).recv
  lanes : ∀ q, (b'.port q).lanes = (b.port q).lanes
  start : ∀ q, (b'.port q).egress.start = (b.port q).egress.start
  current : ∀ q, (b'.port q).egress.current = (b.port q).egress.current
  record : ∀ q, (b'.port q).record = { (b.port q).record with state := (b'.port q).record.state }
  linkState : ∀ q, b'.linkState q = b.linkState q ∨ (b.linkState q = .parked ∧ b'.linkState q = .waking)

theorem PushKeeps.refl (b : Bridge) : PushKeeps b b := by
  constructor <;> intros <;> first | rfl | exact Or.inl rfl

theorem PushKeeps.trans {a b c : Bridge} (h : PushKeeps a b) (k : PushKeeps b c) : PushKeeps a c := by
  constructor
  case record => intro q; rw [k.record q, h.record q]
  case linkState =>
    intro q
    rcases h.linkState q with h1 | ⟨h1, h2⟩ <;> rcases k.linkState q with k1 | ⟨k1, k2⟩
    · exact Or.inl (k1.trans h1)
    · exact Or.inr ⟨h1 ▸ k1, k2⟩
    · exact Or.inr ⟨h1, k1.trans h2⟩
    · rw [h2] at k1; cases k1
  all_goals first
    | exact k.timeBase.trans h.timeBase | exact k.rstLow.trans h.rstLow | exact k.unit.trans h.unit
    | exact k.slots.trans h.slots | exact k.groups.trans h.groups | exact k.miss.trans h.miss
    | exact k.tables.trans h.tables | exact k.deadlineMs.trans h.deadlineMs
    | exact k.quarantineMs.trans h.quarantineMs | exact k.freeCtr.trans h.freeCtr
    | exact k.leafOpen.trans h.leafOpen | exact k.resetForwarding.trans h.resetForwarding
    | exact fun q => (k.ingress q).trans (h.ingress q) | exact fun q => (k.credit q).trans (h.credit q)
    | exact fun q => (k.send q).trans (h.send q) | exact fun q => (k.recv q).trans (h.recv q)
    | exact fun q => (k.lanes q).trans (h.lanes q) | exact fun q => (k.start q).trans (h.start q)
    | exact fun q => (k.current q).trans (h.current q)

/-- A push keeps a port DOWN, and brings none DOWN. -/
theorem PushKeeps.isDown {b b' : Bridge} (h : PushKeeps b b') (q : Port) : b'.isDown q = b.isDown q := by
  rcases h.linkState q with h | ⟨h, k⟩
  · simp [Bridge.isDown, h]
  · simp only [Bridge.isDown, h, k]; rfl

/-- A push keeps an ACTIVE port ACTIVE, and makes none ACTIVE. -/
theorem PushKeeps.isActive {b b' : Bridge} (h : PushKeeps b b') (q : Port) : b'.isActive q = b.isActive q := by
  rcases h.linkState q with h | ⟨h, k⟩
  · simp [Bridge.isActive, h]
  · simp only [Bridge.isActive, h, k]; rfl

theorem setLine_keeps (b : Bridge) (i : Fin 64) (l : Line) : PushKeeps b (b.setLine i l) := by
  constructor <;> intros <;> first | rfl | exact Or.inl rfl

theorem onEngine_keeps (b : Bridge) (f : Engine → Engine) (h : (f b.engine).leafOpen = b.engine.leafOpen)
    (k : (f b.engine).resetForwarding = b.engine.resetForwarding) : PushKeeps b (b.onEngine f) := by
  constructor <;> intros <;> first | rfl | exact h | exact k | exact Or.inl rfl

theorem enqueue_keeps (b : Bridge) (x : Push) : PushKeeps b (b.enqueue x) := by
  obtain ⟨p, c, k, m, w⟩ := x
  constructor <;> intros <;> first | rfl | skip
  all_goals rename_i q
  all_goals cases p <;> cases q <;> first | rfl | exact Or.inl rfl

theorem startWake_keeps (b : Bridge) (p : Port) (h : b.linkState p = .parked) : PushKeeps b (b.startWake p) := by
  constructor
  case linkState =>
    intro q
    by_cases hq : q = p
    · subst hq; exact Or.inr ⟨h, by cases q <;> rfl⟩
    · left; cases p <;> cases q <;> first | rfl | exact absurd rfl hq
  all_goals intros <;> first | rfl | skip
  all_goals rename_i q
  all_goals cases p <;> cases q <;> rfl

theorem place_keeps (b : Bridge) (x : Push) : PushKeeps b (b.place x) := by
  unfold Bridge.place
  dsimp only
  split
  · rename_i h
    have hp : (b.enqueue x).linkState x.port = .parked := by
      rw [Bool.and_eq_true] at h; exact of_decide_eq_true h.2
    exact (enqueue_keeps b x).trans (startWake_keeps _ _ hp)
  · exact enqueue_keeps b x

theorem enterRecord_keeps (b : Bridge) (r : Record) : PushKeeps b (b.enterRecord r) := by
  unfold Bridge.enterRecord
  split <;> constructor <;> intros <;> first | rfl | exact Or.inl rfl

section
variable {push : Push → Bridge → Bridge} (hp : ∀ x b, PushKeeps b (push x b))
include hp

theorem notifyWith_keeps (i : Fin 64) (b : Bridge) : PushKeeps b (notifyWith push i b) := by
  unfold notifyWith
  dsimp only
  split
  · exact (setLine_keeps b i _).trans (hp _ _)
  · exact setLine_keeps b i _

theorem recordWith_keeps (r : Record) (b : Bridge) : PushKeeps b (recordWith push r b) := by
  unfold recordWith
  dsimp only
  split
  · exact (enterRecord_keeps b r).trans (notifyWith_keeps hp 0 _)
  · exact enterRecord_keeps b r

theorem deliverWith_keeps (r : MgmtReply) (w : Bool) (b : Bridge) : PushKeeps b (deliverWith push r w b) := by
  unfold deliverWith
  dsimp only
  split
  · split
    · exact (onEngine_keeps b _ rfl rfl).trans (hp _ _)
    · exact hp _ _
  · exact onEngine_keeps b _ rfl rfl

theorem failDrainWith_keeps (p : Port) (b : Bridge) : PushKeeps b (failDrainWith push p b) := by
  unfold failDrainWith
  split
  · exact PushKeeps.refl b
  · exact (onEngine_keeps b _ rfl rfl).trans (deliverWith_keeps hp _ _ _)

end

theorem pushWith_keeps (fuel : Nat) (x : Push) (b : Bridge) : PushKeeps b (pushWith fuel x b) := by
  induction fuel generalizing x b with
  | zero =>
    unfold pushWith
    split
    · exact enterRecord_keeps b _
    · exact place_keeps b x
  | succ n ih =>
    unfold pushWith
    split
    · exact recordWith_keeps ih _ b
    · exact (place_keeps b x).trans (failDrainWith_keeps ih _ _)

/-- What a push can change. -/
theorem push_keeps (x : Push) (b : Bridge) : PushKeeps b (push x b) := pushWith_keeps 5 x b

/-- What raising a record can change. -/
theorem raise_keeps (r : Record) (b : Bridge) : PushKeeps b (raise r b) := recordWith_keeps push_keeps r b

/-- What raising a record, if any, can change. -/
theorem raiseIf_keeps (r : Option Record) (b : Bridge) : PushKeeps b (raiseIf r b) := by
  cases r
  · exact PushKeeps.refl b
  · exact raise_keeps _ b

/-- What a notification can change. -/
theorem notify_keeps (i : Fin 64) (b : Bridge) : PushKeeps b (notify i b) := notifyWith_keeps push_keeps i b

theorem notifyIfDue_keeps (i : Fin 64) (b : Bridge) : PushKeeps b (notifyIfDue i b) := by
  unfold notifyIfDue
  split
  · exact notify_keeps i b
  · exact PushKeeps.refl b

theorem cancelNotification_keeps (i : Fin 64) (b : Bridge) : PushKeeps b (cancelNotification i b) := by
  unfold cancelNotification
  dsimp only
  split
  · exact setLine_keeps b i _
  · exact PushKeeps.refl b

/-- What delivering a management reply can change. -/
theorem deliver_keeps (r : MgmtReply) (b : Bridge) : PushKeeps b (deliver r b) := deliverWith_keeps push_keeps r true b

/-- What the failing of a LINK_PARK drain can change. -/
theorem failDrain_keeps (p : Port) (b : Bridge) : PushKeeps b (failDrain p b) := failDrainWith_keeps push_keeps p b

theorem answerRetrain_keeps (p : Port) (st : Status) (data : List Byte) (b : Bridge) :
    PushKeeps b (answerRetrain p st data b) := by
  unfold answerRetrain
  split
  · exact PushKeeps.refl b
  · exact (onEngine_keeps b _ rfl rfl).trans (deliver_keeps _ _)

theorem admitReply_keeps (p : Port) (b : Bridge) : PushKeeps b (admitReply p b) := by
  unfold admitReply
  split
  · exact PushKeeps.refl b
  · dsimp only
    split
    · exact ((onEngine_keeps b _ rfl rfl).trans (onEngine_keeps _ _ rfl rfl)).trans (push_keeps _ _)
    · exact (onEngine_keeps b _ rfl rfl).trans (push_keeps _ _)

theorem admitLine_keeps (i : Fin 64) (b : Bridge) : PushKeeps b (admitLine i b) :=
  (setLine_keeps b i _).trans (push_keeps _ _)

theorem enter_keeps (x : Push) (b : Bridge) : PushKeeps b (enter x b) := by
  unfold enter
  split
  · exact PushKeeps.refl b
  · exact place_keeps b x

theorem follow_keeps (x : Push) (b : Bridge) : PushKeeps b (follow x b) := by
  unfold follow
  split
  · exact recordWith_keeps push_keeps _ b
  · exact failDrainWith_keeps push_keeps _ b

/-- What pushing two packets in one event can change. -/
theorem pushBoth_keeps (x y : Push) (b : Bridge) : PushKeeps b (pushBoth x y b) :=
  (((enter_keeps x b).trans (enter_keeps y _)).trans (follow_keeps x _)).trans (follow_keeps y _)

/-- The end of a drain changes what a reply can change. -/
theorem answerRetire_keeps (i : Fin 32) (b : Bridge) : PushKeeps b (answerRetire i b) := by
  unfold answerRetire
  split
  · exact PushKeeps.refl b
  · exact (onEngine_keeps b _ rfl rfl).trans (deliver_keeps _ _)

end Sys2Proof.Laws
end

