-- ==== Sys2Proof/Laws/PerInstr.lean ====
section
/-! SUPPORT. What well-formedness says, row by row. -/

namespace Sys2Proof.Laws.WellFormed

/-- The flit a row carries, with the code it must have. -/
def rowFlit : Instr → Option (RawFlit × FlitCode)
  | .rootReset f | .resetFlitAtLeaf f => some (f, .reset)
  | .partnerTrainDetected _ f => some (f, .train)
  | .configReceived _ f => some (f, .config)
  | .ackReceived _ f => some (f, .ack)
  | .nakReceived _ f => some (f, .nak)
  | .creditReceived _ f => some (f, .credit)
  | .parkReceived _ f => some (f, .park)
  | .wakeReceived _ f => some (f, .wake)
  | .idleReceived _ f => some (f, .idle)
  | _ => none

/-- The frame a row carries. -/
def rowFrame : Instr → Option RxFrame
  | .packetReceived _ f => some f
  | _ => none

/-- A row is well formed exactly when its flit, if it carries one, has the row's code in bits 7–4 of its first byte and
the code's length, and its frame, if it carries one, has the payload its header's block count gives. -/
def Statement (i : Instr) : Prop :=
  i.wf = true ↔
    (∀ f k, rowFlit i = some (f, k) → f.bytes.length = k.size ∧ ∃ b rest, f.bytes = b :: rest ∧ b.toNat / 16 = k.code) ∧
      ∀ f, rowFrame i = some f → f.payload.length = 64 * (f.header[0].toNat % 8)

theorem isA_iff (f : RawFlit) (k : FlitCode) :
    f.isA k = true ↔ f.bytes.length = k.size ∧ ∃ b rest, f.bytes = b :: rest ∧ b.toNat / 16 = k.code := by
  unfold RawFlit.isA
  cases h : f.bytes with
  | nil => simp
  | cons b rest => simp [and_comm]

/-- A row that carries neither a flit nor a frame is always well formed. -/
theorem plain (i : Instr) (hw : i.wf = true) (hf : rowFlit i = none) (hr : rowFrame i = none) : Statement i := by
  simp [Statement, hw, hf, hr]

/-- A row that carries a flit is well formed by its flit alone. -/
theorem ofFlit (i : Instr) (f : RawFlit) (k : FlitCode) (hw : i.wf = f.isA k) (hf : rowFlit i = some (f, k))
    (hr : rowFrame i = none) : Statement i := by
  simp only [Statement, hw, hf, hr, isA_iff]
  constructor
  · intro h; refine ⟨?_, nofun⟩; intro f' k' e; cases e; exact h
  · intro h; exact h.1 f k rfl

theorem coldReset (unitsel : UnitNo) (leafmgt : Bool) : Statement (.coldReset unitsel leafmgt) := plain _ rfl rfl rfl
theorem rstNRelease : Statement .rstNRelease := plain _ rfl rfl rfl
theorem rootReset (f : RawFlit) : Statement (.rootReset f) := ofFlit _ f .reset rfl rfl rfl
theorem resetFlitAtLeaf (f : RawFlit) : Statement (.resetFlitAtLeaf f) := ofFlit _ f .reset rfl rfl rfl
theorem packetReceived (p : Port) (f : RxFrame) : Statement (.packetReceived p f) := by
  simp [Statement, Instr.wf, RxFrame.sized, rowFlit, rowFrame]
theorem partnerTrainDetected (p : Port) (f : RawFlit) : Statement (.partnerTrainDetected p f) :=
  ofFlit _ f .train rfl rfl rfl
theorem configReceived (p : Port) (f : RawFlit) : Statement (.configReceived p f) := ofFlit _ f .config rfl rfl rfl
theorem ackReceived (p : Port) (f : RawFlit) : Statement (.ackReceived p f) := ofFlit _ f .ack rfl rfl rfl
theorem nakReceived (p : Port) (f : RawFlit) : Statement (.nakReceived p f) := ofFlit _ f .nak rfl rfl rfl
theorem creditReceived (p : Port) (f : RawFlit) : Statement (.creditReceived p f) := ofFlit _ f .credit rfl rfl rfl
theorem parkReceived (p : Port) (f : RawFlit) : Statement (.parkReceived p f) := ofFlit _ f .park rfl rfl rfl
theorem wakeReceived (p : Port) (f : RawFlit) : Statement (.wakeReceived p f) := ofFlit _ f .wake rfl rfl rfl
theorem idleReceived (p : Port) (f : RawFlit) : Statement (.idleReceived p f) := ofFlit _ f .idle rfl rfl rfl
theorem sweepEnds (p : Port) (passing : Vector (BitVec 64) 16) : Statement (.sweepEnds p passing) :=
  plain _ rfl rfl rfl
theorem attemptBoundPasses (p : Port) : Statement (.attemptBoundPasses p) := plain _ rfl rfl rfl
theorem wakeBoundPasses (p : Port) : Statement (.wakeBoundPasses p) := plain _ rfl rfl rfl
theorem parkDrainBoundPasses (p : Port) : Statement (.parkDrainBoundPasses p) := plain _ rfl rfl rfl
theorem parkDrainCompletes (p : Port) : Statement (.parkDrainCompletes p) := plain _ rfl rfl rfl
theorem replayTimerExpires (p : Port) : Statement (.replayTimerExpires p) := plain _ rfl rfl rfl
theorem ackBoundPasses (p : Port) : Statement (.ackBoundPasses p) := plain _ rfl rfl rfl
theorem creditRepeatDue (p : Port) : Statement (.creditRepeatDue p) := plain _ rfl rfl rfl
theorem configRepeat (p : Port) : Statement (.configRepeat p) := plain _ rfl rfl rfl
theorem wakeRepeat (p : Port) : Statement (.wakeRepeat p) := plain _ rfl rfl rfl
theorem arbiterDecision (p : Port) : Statement (.arbiterDecision p) := plain _ rfl rfl rfl
theorem replayResend (p : Port) : Statement (.replayResend p) := plain _ rfl rfl rfl
theorem ackSent (p : Port) : Statement (.ackSent p) := plain _ rfl rfl rfl
theorem nakSent (p : Port) : Statement (.nakSent p) := plain _ rfl rfl rfl
theorem creditFlitSent (p : Port) : Statement (.creditFlitSent p) := plain _ rfl rfl rfl
theorem takePut (p : Port) : Statement (.takePut p) := plain _ rfl rfl rfl
theorem takeGetSet (p : Port) : Statement (.takeGetSet p) := plain _ rfl rfl rfl
theorem takeManage (p : Port) : Statement (.takeManage p) := plain _ rfl rfl rfl
theorem managementBypass (p : Port) : Statement (.managementBypass p) := plain _ rfl rfl rfl
theorem takeSignal : Statement .takeSignal := plain _ rfl rfl rfl
theorem takeReply (p : Port) : Statement (.takeReply p) := plain _ rfl rfl rfl
theorem takeMalformed (p : Port) (c : Cls) : Statement (.takeMalformed p c) := plain _ rfl rfl rfl
theorem deadlinePasses (d : Dir) (e : Fin 64) : Statement (.deadlinePasses d e) := plain _ rfl rfl rfl
theorem quarantineEndPasses (d : Dir) (e : Fin 64) : Statement (.quarantineEndPasses d e) := plain _ rfl rfl rfl
theorem returningDonePushed (d : Dir) (e : Fin 64) : Statement (.returningDonePushed d e) := plain _ rfl rfl rfl
theorem notificationAdmitted : Statement .notificationAdmitted := plain _ rfl rfl rfl
theorem managementReplyAdmitted (p : Port) : Statement (.managementReplyAdmitted p) := plain _ rfl rfl rfl
theorem unknownCommand : Statement .unknownCommand := plain _ rfl rfl rfl
theorem identify : Statement .identify := plain _ rfl rfl rfl
theorem accessSet : Statement .accessSet := plain _ rfl rfl rfl
theorem portStatus : Statement .portStatus := plain _ rfl rfl rfl
theorem linkSet : Statement .linkSet := plain _ rfl rfl rfl
theorem linkRetrain : Statement .linkRetrain := plain _ rfl rfl rfl
theorem linkPark : Statement .linkPark := plain _ rfl rfl rfl
theorem linkWake : Statement .linkWake := plain _ rfl rfl rfl
theorem laneRead : Statement .laneRead := plain _ rfl rfl rfl
theorem bufferPlanSet : Statement .bufferPlanSet := plain _ rfl rfl rfl
theorem arbiterSet : Statement .arbiterSet := plain _ rfl rfl rfl
theorem windowLoad : Statement .windowLoad := plain _ rfl rfl rfl
theorem windowActivate : Statement .windowActivate := plain _ rfl rfl rfl
theorem windowRetire : Statement .windowRetire := plain _ rfl rfl rfl
theorem windowDiscard : Statement .windowDiscard := plain _ rfl rfl rfl
theorem windowRead : Statement .windowRead := plain _ rfl rfl rfl
theorem groupSet : Statement .groupSet := plain _ rfl rfl rfl
theorem groupRead : Statement .groupRead := plain _ rfl rfl rfl
theorem missPolicySet : Statement .missPolicySet := plain _ rfl rfl rfl
theorem timerSet : Statement .timerSet := plain _ rfl rfl rfl
theorem queryRead : Statement .queryRead := plain _ rfl rfl rfl
theorem querySummary : Statement .querySummary := plain _ rfl rfl rfl
theorem signalConfig : Statement .signalConfig := plain _ rfl rfl rfl
theorem signalMask : Statement .signalMask := plain _ rfl rfl rfl
theorem signalServiced : Statement .signalServiced := plain _ rfl rfl rfl
theorem signalRead : Statement .signalRead := plain _ rfl rfl rfl
theorem captureRead : Statement .captureRead := plain _ rfl rfl rfl
theorem captureClear : Statement .captureClear := plain _ rfl rfl rfl

end Sys2Proof.Laws.WellFormed
end

