-- ==== Sys2Proof/Laws/Training.lean ====
section
/-! SUPPORT. What the beginning of a training does, and what renumbering leaves. -/

namespace Sys2Proof.Laws

open Sys2Proof.Machine

/-- With no LINK_PARK drain listed, leaving ACTIVE ends the port's due answers, timer and replay, and nothing else. -/
theorem endTraffic_eq (p : Port) (b : Bridge) (h : b.engine.deferred.find? (·.parks p) = none) :
    endTraffic p b =
      (b.onRecv p fun r => { r with ackDue := false, nakDue := false }).onSend p
        fun s => { s with timerStart := none, replayPos := none } := by
  unfold endTraffic failDrain failDrainWith
  simp [h]

/-- With no LINK_PARK drain listed, a training's beginning changes its own port alone. -/
theorem beginTraining_eq (p : Port) (cause : Cause) (carried : Rate) (b : Bridge)
    (h : b.engine.deferred.find? (·.parks p) = none) :
    beginTraining p cause carried b =
      let x := b.port p
      let rate := firstRate cause carried x.record.pendingSettings.rateCap x.record.partnerMax x.record.rate
      b.setPort p
        { x with
          record :=
            { x.record with
              state := .training, rate := rate, attempts := 0, cause := cause, inForce := x.record.pendingSettings,
              attemptStart := b.timeBase },
          training :=
            { x.training with
              planTaken := false, usable := none, keptAck := none, keptConfig := none, sentAck := none,
              sentConfig := none },
          lanes := x.lanes.mapIdx fun _ l => { l with inUse := false },
          recv := { x.recv with ackDue := false, nakDue := false },
          send := { x.send with timerStart := none, replayPos := none },
          out := x.out ++ [⟨.flit (.train false rate), some .w16⟩] } := by
  unfold beginTraining
  rw [endTraffic_eq p b h]
  simp [beginAttempt, Bridge.onRecv, Bridge.onSend, Bridge.onRecord, Bridge.onTraining, Bridge.onPort, Bridge.emit,
    PortRecord.begun]

/-- What leaving ACTIVE changes beside the port's due answers, timer and replay: what the reply of a failing drain
can. -/
theorem endTraffic_keeps (p : Port) (b : Bridge) :
    PushKeeps
      ((b.onRecv p fun r => { r with ackDue := false, nakDue := false }).onSend p
        fun s => { s with timerStart := none, replayPos := none })
      (endTraffic p b) :=
  failDrain_keeps p _

/-- What a training's beginning leaves, whether or not a LINK_PARK drain fails with it. -/
structure TrainingBegun (p : Port) (cause : Cause) (carried : Rate) (b t : Bridge) : Prop where
  record : (t.port p).record =
    { (b.port p).record with
      state := .training, attempts := 0, cause := cause, inForce := (b.port p).record.pendingSettings,
      rate := firstRate cause carried (b.port p).record.pendingSettings.rateCap (b.port p).record.partnerMax
        (b.port p).record.rate,
      attemptStart := b.timeBase }
  send : (t.port p).send = { (b.port p).send with timerStart := none, replayPos := none }
  recv : (t.port p).recv = { (b.port p).recv with ackDue := false, nakDue := false }
  ingress : ∀ q, (t.port q).ingress = (b.port q).ingress
  credit : ∀ q, (t.port q).credit = (b.port q).credit
  start : ∀ q, (t.port q).egress.start = (b.port q).egress.start
  current : ∀ q, (t.port q).egress.current = (b.port q).egress.current
  otherSend : ∀ q, q ≠ p → (t.port q).send = (b.port q).send
  otherRecv : ∀ q, q ≠ p → (t.port q).recv = (b.port q).recv
  tables : t.tables = b.tables
  slots : t.slots = b.slots
  timeBase : t.timeBase = b.timeBase
  rstLow : t.rstLow = b.rstLow

theorem beginTraining_begun (p : Port) (cause : Cause) (carried : Rate) (b : Bridge) :
    TrainingBegun p cause carried b (beginTraining p cause carried b) := by
  have h := endTraffic_keeps p b
  unfold beginTraining
  generalize endTraffic p b = e at h ⊢
  have hr : (e.port p).record = { (b.port p).record with state := (e.port p).record.state } := by
    rw [h.record p]; simp
  have ht : e.timeBase = b.timeBase := by rw [h.timeBase]; simp
  constructor
  case record =>
    simp only [beginAttempt, PortRecord.begun, port_onRecord_self, port_onTraining_self, port_onPort_self,
      port_emit_self, timeBase_onTraining, timeBase_onRecord, ht]
    rw [hr]
  case send => have := h.send p; simp [beginAttempt] at this ⊢; rw [this]
  case recv => have := h.recv p; simp [beginAttempt] at this ⊢; rw [this]
  case ingress =>
    intro q; have := h.ingress q
    by_cases hq : q = p
    · subst hq; simp [beginAttempt] at this ⊢; exact this
    · simp [beginAttempt, hq] at this ⊢; exact this
  case credit =>
    intro q; have := h.credit q
    by_cases hq : q = p
    · subst hq; simp [beginAttempt] at this ⊢; exact this
    · simp [beginAttempt, hq] at this ⊢; exact this
  case start =>
    intro q; have := h.start q
    by_cases hq : q = p
    · subst hq; simp [beginAttempt] at this ⊢; exact this
    · simp [beginAttempt, hq] at this ⊢; exact this
  case current =>
    intro q; have := h.current q
    by_cases hq : q = p
    · subst hq; simp [beginAttempt] at this ⊢; exact this
    · simp [beginAttempt, hq] at this ⊢; exact this
  case otherSend => intro q hq; have := h.send q; simp [beginAttempt, hq] at this ⊢; exact this
  case otherRecv => intro q hq; have := h.recv q; simp [beginAttempt, hq] at this ⊢; exact this
  case tables => have := h.tables; simp [beginAttempt] at this ⊢; exact this
  case slots => have := h.slots; simp [beginAttempt] at this ⊢; exact this
  case timeBase => exact ht
  case rstLow => have := h.rstLow; simp [beginAttempt] at this ⊢; exact this

/-- Renumbering frames each packet afresh with consecutive numbers. -/
theorem reframe_eq (n : Seq) (l : List Framed) :
    reframe n l = l.mapIdx fun i f => frame (n + BitVec.ofNat 12 i) f.pkt := by
  induction l generalizing n with
  | nil => rfl
  | cons f fs ih =>
    rw [reframe, ih, List.mapIdx_cons]
    simp [BitVec.ofNat_add, BitVec.add_assoc, BitVec.add_comm 1#12]

theorem length_reframe (n : Seq) (l : List Framed) : (reframe n l).length = l.length := by simp [reframe_eq]

end Sys2Proof.Laws
end

