-- ==== Sys2Proof/Laws/Wire.lean ====
section
/-! SUPPORT. What reading a flit answers, field by field. -/

namespace Sys2Proof.Laws

open Sys2Proof.Machine

theorem rateOfCode_eq_some (n : Nat) (r : Rate) : Rate.ofCode? n = some r ↔ n = r.code.toNat := by
  unfold Rate.ofCode?; split <;> cases r <;> simp_all [Rate.code]

theorem widthOfLanes_eq_some (n : Nat) (w : Width) : Width.ofLanes? n = some w ↔ n = w.lanes := by
  unfold Width.ofLanes?; split <;> cases w <;> simp_all [Width.lanes]

theorem configOf_eq_some (w x : Byte) (credits : PerClass (Amount Byte)) (f : Flit) : configOf? w x credits = some f ↔
    ∃ c : ConfigFlit, f = .config c ∧ w.toNat % 32 = c.maxWidth.lanes ∧ x.msb = c.restart ∧
      x.toNat % 4 = c.maxRate.code.toNat ∧ credits = c.credits := by
  simp only [← rateOfCode_eq_some, ← widthOfLanes_eq_some, configOf?]
  constructor
  · intro h; split at h
    · exact ⟨_, (Option.some.inj h).symm, by assumption, rfl, by assumption, rfl⟩
    · cases h
  · rintro ⟨c, rfl, hw, hm, hr, rfl⟩; simp [hw, hr, hm]

theorem countBytes_eq (t : PerClass (Amount Byte)) (a b c d e f : Byte) :
    [a, b, c, d, e, f] = countBytes t ↔ ⟨⟨a, b⟩, ⟨c, d⟩, ⟨e, f⟩⟩ = t := by
  rcases t with ⟨⟨_, _⟩, ⟨_, _⟩, ⟨_, _⟩⟩; simp [countBytes, and_assoc]

/-- Reading the bytes after byte 0 answers a flit exactly where they are that flit's layout. -/
theorem ofBody_eq_some (c : Nat) (r : List Byte) (f : Flit) : Flit.ofBody c r = some f ↔
    match f with
    | .idle => c = 0 ∧ r = []
    | .train marker rate => ∃ y : Byte, c = 1 ∧ r = [y] ∧ y.msb = marker ∧ y.toNat % 4 = rate.code.toNat
    | .config k => ∃ w y : Byte, c = 2 ∧ r = w :: y :: countBytes k.credits ∧ w.toNat % 32 = k.maxWidth.lanes ∧
        y.msb = k.restart ∧ y.toNat % 4 = k.maxRate.code.toNat
    | .ack n => ∃ h l : Byte, c = 3 ∧ r = [h, l] ∧ n = seqOf h l
    | .nak n => ∃ h l : Byte, c = 4 ∧ r = [h, l] ∧ n = seqOf h l
    | .credit t => c = 5 ∧ r = countBytes t
    | .park => c = 6 ∧ r = []
    | .wake => c = 7 ∧ r = []
    | .reset => c = 8 ∧ r = [] := by
  unfold Flit.ofBody
  split
  case h_2 => split <;> cases f <;> simp_all [rateOfCode_eq_some]; grind
  case h_3 =>
    split
    · rw [configOf_eq_some]
      cases f <;> simp [countBytes_eq]
      grind
    · cases f <;> simp_all [countBytes]
  case h_6 =>
    split
    · cases f <;> simp [countBytes_eq]
    · cases f <;> simp_all [countBytes]
  case h_10 => cases f <;> simp_all
  all_goals split <;> cases f <;> simp_all <;> grind

end Sys2Proof.Laws
end

