-- ==== Sys2Proof/Tests/Slice0.lean ====
section
/-! SUPPORT. Small tests: each check of well-formedness refuses a term, single commands on small states (several from the
spec's worked sequences), and for every statement with hypotheses a state that meets them. -/

namespace Sys2Proof.Tests

open Sys2Proof.Machine Sys2Proof.Safety

set_option Elab.async false

/-! ### Well-formedness -/

theorem test_wf_flit : Instr.wf (.rootReset Flit.reset.onLanes) = true ∧
    Instr.wf (.ackReceived .root (Flit.ack 5).onLanes) = true := by decide

theorem test_refuses_code_of_another_row : Instr.wf (.rootReset Flit.wake.onLanes) = false ∧
    Instr.wf (.resetFlitAtLeaf Flit.wake.onLanes) = false ∧
    Instr.wf (.partnerTrainDetected .root (Flit.ack 5).onLanes) = false ∧
    Instr.wf (.configReceived .root (Flit.ack 5).onLanes) = false ∧
    Instr.wf (.ackReceived .root (Flit.nak 5).onLanes) = false ∧
    Instr.wf (.nakReceived .root (Flit.ack 5).onLanes) = false ∧
    Instr.wf (.creditReceived .root (Flit.ack 5).onLanes) = false ∧
    Instr.wf (.parkReceived .root Flit.wake.onLanes) = false ∧
    Instr.wf (.wakeReceived .root Flit.park.onLanes) = false ∧
    Instr.wf (.idleReceived .root Flit.park.onLanes) = false := by decide

theorem test_refuses_wrong_length : Instr.wf (.ackReceived .root { bytes := [0x30, 0], check := #v[0, 0] }) = false ∧
    Instr.wf (.idleReceived .root { bytes := [], check := #v[0, 0] }) = false := by decide

/-! ### States and packets -/

/-- A GET of 200 bytes from unit 3 (01 section 1.10). -/
def getPacket : Packet :=
  { Packet.zero .get with ordered := true, src := 3, dst := 20, tag := 0x41, addr := 0x40000E00, len := 199 }

/-- A one-block PUT from unit 3. -/
def putPacket : Packet :=
  { Packet.zero .put with src := 3, addr := 0x9000, len := 63, blocks := 1, payload := zeros 64 }

/-- A one-block SET from unit 3. -/
def setPacket : Packet := { putPacket with kind := .set, tag := 7 }

/-- A MANAGE for unit 9 with a command code and operand bytes, from unit 3. -/
def managePacket (code : Byte) (ops : List Byte) : Packet :=
  { Packet.zero .manage with
    src := 3, dst := 9, tag := 0x10, info := code, blocks := 1,
    payload := [BitVec.ofNat 8 ops.length, 0, 0, 0] ++ ops ++ zeros (60 - ops.length) }

/-- A SIGNAL of unit 4: assert or deassert line 7. -/
def signalPacket (level : Bool) : Packet :=
  { Packet.zero .signal with src := 4, info := if level then 0x87 else 0x07 }

/-- A DATA of two blocks from unit 20 for entry 0. -/
def dataPacket (last : Bool) (part : Byte) : Packet :=
  { Packet.zero .data with
    src := 20, dst := 9, tag := 0, blocks := 2, info := part ||| (if last then 0x80 else 0), payload := zeros 128 }

/-- A DONE from unit 20 for entry 0. -/
def doneReply (status : Byte) : Packet := { Packet.zero .done with src := 20, dst := 9, info := status }

/-- An ACTIVE port with credit in both directions. -/
def activePort : PortState :=
  { PortState.cold with
    record := { PortRecord.cold with state := .active, width := some .w16, rate := .r12_8 },
    ingress := { Ingress.cold with account := .all { RxAccount.zero with outstanding := ⟨8, 16⟩ } },
    credit := .all { held := ⟨8, 16⟩, seen := .both 0 } }

/-- Bridge unit 9, running, both ports ACTIVE. -/
def up : Bridge :=
  { Bridge.cold 9 true with rstLow := false, timeBase := 5000, ports := { root := activePort, leaf := activePort } }

/-- A part with no command waiting. -/
def stateOf (b : Bridge) : State := { bridge := b, pending := [] }

/-- The part after a command; the part itself where the command does not go on. -/
def run (i : Instr) (b : Bridge) : Bridge :=
  match exec i (stateOf b) with
  | .next t => t.bridge
  | _ => b

/-- A packet waits in a pool of Root or Leaf, with its cost occupied. -/
def buffered (p : Port) (k : Packet) (b : Bridge) : Bridge := deliverPacket p k b

/-- A command from Root at the head of the command queue. -/
def commanded (code : BitVec 6) (ops : List Byte) (b : Bridge) : Bridge :=
  b.onEngine fun e => { e with queue := [commandOf .root (managePacket (code.zeroExtend 8) ops)] }

/-- The LIVE window of 01 section 1.10. -/
def window30 : WindowRecord :=
  { direction := .down, base := 0x40000000, sizeExp := 30, translation := some 0x0800000000, readAllowed := true,
    writeAllowed := true, group := 0, earlyAck := false, specAllowed := false }

/-- Slot 5 holds that window, LIVE. -/
def windowed (b : Bridge) : Bridge := b.setSlot 5 { state := .live, window := window30, inflight := 0 }

/-- A queued packet with a stamp. -/
def queuedAt (stamp : Nat) (k : Packet) : Queued := { pkt := k, stamp := stamp, mark := none }

/-- Thirty-two packets. -/
def fullQueue : List Queued := List.replicate 32 (queuedAt 0 putPacket)

/-- A replay buffer of two packets, 3 and 4. -/
def twoFramed : List Framed := [frame 3 getPacket, frame 4 getPacket]

/-! ### The wire and the form rules -/

/-- The 16-bit check of the nine ASCII digits is the published check of this polynomial and initial value. -/
theorem test_crc16 : crc16 [0x31, 0x32, 0x33, 0x34, 0x35, 0x36, 0x37, 0x38, 0x39] = 0x29B1 := by decide +kernel

/-- A check value goes most significant byte first, and a flit whose two check bytes are swapped is discarded (07
R116). -/
theorem test_checkBytes :
    checkBytes16 0x29B1 = #v[0x29, 0xB1] ∧ checkBytes32 0x01020304 = #v[1, 2, 3, 4] ∧
    readFlit { bytes := [0x60], check := checkBytes16 (crc16 [0x60]) } = some .park ∧
    readFlit { bytes := [0x60], check := #v[(crc16 [0x60]).extractLsb' 0 8, (crc16 [0x60]).extractLsb' 8 8] } = none := by
  decide +kernel

/-- CONFIG in the bytes of 07 Table 7-2. -/
theorem test_config_bytes :
    Flit.encode (.config ⟨.w8, true, .r12_8, ⟨⟨16, 32⟩, ⟨6, 7⟩, ⟨0xFF, 0xFE⟩⟩⟩) =
      [0x20, 0x08, 0x83, 16, 32, 6, 7, 0xFF, 0xFE] := by decide

theorem test_flit_codes : Flit.encode (.train true .r6_4) = [0x10, 0x82] ∧ Flit.encode (.nak 0xABC) = [0x40, 0x0A, 0xBC] ∧
    Flit.encode .reset = [0x80] := by decide

/-- The damaged or unknown flit is discarded (07 R116). -/
theorem test_bad_flit : readFlit { bytes := [0x60], check := #v[0, 0] } = none ∧
    readFlit { bytes := [0x90], check := checkBytes16 (crc16 [0x90]) } = none ∧
    readFlit { bytes := [0x10, 0], check := checkBytes16 (crc16 [0x10, 0]) } = none := by decide +kernel

/-- The header of a GET, byte for byte (01 Table 1-3). -/
theorem test_header : getPacket.headerBytes = [0x50, 3, 20, 0x41, 0, 0, 0x40, 0, 0x0E, 0, 199, 0] := by decide

/-- 01 Table 1-10. -/
theorem test_form_judgements :
    malformed .root { putPacket with addr := 0xFF0, len := 31 } = true ∧
    malformed .root { setPacket with addr := 0x1000, len := 64 } = true ∧
    malformed .root { getPacket with speculative := true, len := 63 } = false ∧
    malformed .root { setPacket with speculative := true } = true ∧
    malformed .root (signalPacket true) = true ∧ malformed .leaf (signalPacket true) = false ∧
    malformed .root (doneReply 12) = true ∧ malformed .root (Packet.zero .none7) = true := by decide

/-! ### Single commands -/

/-- 01 section 1.10: the GET leaves with unit 9, tag 0 and the translated address; the slot counts it. -/
theorem test_takeGetSet :
    let b := run (.takeGetSet .root) (buffered .root getPacket (windowed up))
    (b.queue .leaf .query).map (·.pkt) = [{ getPacket with src := 9, tag := 0, addr := 0x0800000E00 }] ∧
    (b.slot 5).inflight = 1 ∧ b.entry .down 0 = Entry.allocated getPacket (some 5) 21000 ∧
    b.account .root .query = { (RxAccount.zero) with outstanding := ⟨7, 16⟩, freed := ⟨1, 0⟩ } := by
  decide +kernel

/-- 01 section 1.10: the first DATA is restored and the entry waits for part 1; the second frees entry and reference. -/
theorem test_takeReply :
    let b := run (.takeGetSet .root) (buffered .root getPacket (windowed up))
    let b := queryTransmitted ⟨.down, 0⟩ b
    let b := run (.takeReply .leaf) (buffered .leaf (dataPacket false 0) b)
    let b' := run (.takeReply .leaf) (buffered .leaf (dataPacket true 1) b)
    (b.queue .root .reply).map (·.pkt) = [{ dataPacket false 0 with dst := 3, tag := 0x41 }] ∧
    (b.entry .down 0).nextPart = some 1 ∧ (b.entry .down 0).delivered = 2 ∧
    b'.entry .down 0 = Entry.free ∧ (b'.slot 5).inflight = 0 := by
  decide +kernel

/-- An early-acknowledged SET leaves as a PUT at Leaf, and its DONE OK enters the Root Reply queue. -/
theorem test_takeGetSet_earlyAck :
    let w := { window30 with base := 0, translation := none, earlyAck := true }
    let b := run (.takeGetSet .root) (buffered .root setPacket (up.setSlot 7 { state := .live, window := w, inflight := 0 }))
    (b.queue .leaf .stream).map (·.pkt) = [{ setPacket with kind := .put }] ∧
    (b.queue .root .reply).map (·.pkt) = [donePacket 9 3 7 .ok] ∧ b.pool .root .query = [] := by
  decide +kernel

theorem test_takePut :
    ((run (.takePut .root) (buffered .root putPacket up)).queue .leaf .stream).map (·.pkt) = [putPacket] := by
  decide +kernel

theorem test_takeManage :
    ((run (.takeManage .root) (buffered .root (managePacket 0 []) up)).engine.queue).map (·.code) = [0] := by
  decide +kernel

/-- A MANAGE behind a GET that finds no place is taken by the bypass. -/
theorem test_managementBypass :
    let b := buffered .root (managePacket 0 []) (buffered .root getPacket (up.setQueue .leaf .query fullQueue))
    (run (.managementBypass .root) b).engine.queue.length = 1 ∧
    (run (.managementBypass .root) b).pool .root .query = [getPacket] := by
  decide +kernel

/-- An asserted, enabled, unmasked IDLE line notifies. -/
theorem test_takeSignal :
    let l := { Line.cold with enabled := true, masked := false, target := 0x7000, payload := 0x01020304 }
    let b := run .takeSignal (buffered .leaf (signalPacket true) (up.setLine 7 l))
    b.line 7 = { l with level := true, state := .outstanding, lastUnit := some 4 } ∧
    (b.queue .root .stream).map (·.pkt) = [notificationPut 9 l] := by
  decide +kernel

theorem test_takeMalformed :
    let b := run (.takeMalformed .root .stream) (buffered .root { putPacket with blocks := 2 } up)
    b.pool .root .stream = [] ∧ b.capture.map (·.kind) = [.malformed] ∧ (b.line 0).level = true := by
  decide +kernel

/-- The first three decisions of 05 section 5.6. -/
theorem test_arbiterDecision :
    let b := ((up.setQueue .leaf .reply [queuedAt 0 (doneReply 0), queuedAt 1 (doneReply 0)]).setQueue .leaf .stream
      [queuedAt 2 putPacket]).setQueue .leaf .query [queuedAt 3 { getPacket with ordered := false }]
    let b1 := run (.arbiterDecision .leaf) b
    let b2 := run (.arbiterDecision .leaf) b1
    let b3 := run (.arbiterDecision .leaf) b2
    (b1.port .leaf).egress.current = { reply := 1, stream := 1, query := 2 } ∧
    (b2.port .leaf).egress.current = { reply := 1, stream := 0, query := 1 } ∧
    (b3.port .leaf).egress.current = { reply := 1, stream := 2, query := 0 } ∧
    (b3.port .leaf).send.nextSeq = 3 ∧ b3.queue .leaf .stream = [] := by
  decide +kernel

/-- An expected good frame is delivered; the same frame again makes an ACK due. -/
theorem test_packetReceived :
    let b := run (.packetReceived .root (sealFrame 0 getPacket)) up
    b.pool .root .query = [getPacket] ∧ (b.port .root).recv.expected = 1 ∧
    ((run (.packetReceived .root (sealFrame 0 getPacket)) b).port .root).recv.ackDue = true := by
  decide +kernel

/-- A bad check value raises CHECK_FAIL and makes a NAK due. -/
theorem test_packetReceived_damaged :
    let b := run (.packetReceived .root { sealFrame 0 getPacket with check := #v[0, 0, 0, 0] }) up
    b.capture.map (·.kind) = [.checkFail] ∧ (b.port .root).recv.nakDue = true := by
  decide +kernel

theorem test_ackReceived :
    let b := run (.ackReceived .leaf (Flit.ack 3).onLanes) (up.onSend .leaf fun s => { s with buffer := twoFramed, nextSeq := 5 })
    (b.port .leaf).send.buffer = [frame 4 getPacket] := by
  decide +kernel

theorem test_nakReceived :
    let b := run (.nakReceived .leaf (Flit.nak 4).onLanes) (up.onSend .leaf fun s => { s with buffer := twoFramed, nextSeq := 5 })
    (b.port .leaf).send.buffer = [frame 4 getPacket] ∧ (b.port .leaf).send.replayPos = some 0 ∧
    (b.port .leaf).send.replayCount = 1 := by
  decide +kernel

theorem test_creditReceived :
    let b := run (.creditReceived .root (Flit.credit ⟨⟨2, 3⟩, ⟨0, 0⟩, ⟨0, 0⟩⟩).onLanes)
      (up.onPort .root fun s => { s with credit := s.credit.set .stream ⟨⟨-1, 4⟩, ⟨255, 3⟩⟩ })
    (b.port .root).credit.stream = ⟨⟨2, 4⟩, ⟨2, 3⟩⟩ := by
  decide +kernel

/-- The receive account of 06 Tables 6-4 and 6-5 at the CONFIG flit. -/
theorem test_config_account :
    RxAccount.atConfig { RxAccount.zero with occupied := ⟨0, 0⟩, outstanding := ⟨10, 20⟩, freed := ⟨6, 12⟩ } ⟨2, 4⟩ =
      { RxAccount.zero with outstanding := ⟨2, 4⟩, allowance := ⟨8, 16⟩ } ∧
    RxAccount.atConfig { RxAccount.zero with occupied := ⟨2, 1⟩, outstanding := ⟨8, 10⟩, freed := ⟨6, 5⟩ } ⟨8, 8⟩ =
      { RxAccount.zero with occupied := ⟨2, 1⟩, outstanding := ⟨6, 7⟩, allowance := ⟨2, 3⟩ } ∧
    freshCredit ⟨2, 4⟩ ⟨3, 6⟩ = { held := ⟨-1, -2⟩, seen := ⟨0, 0⟩ } := by decide

/-- The widest run, the lowest first among equals, with the trim held to 0–63. -/
theorem test_sweptLane :
    sweptLane .r6_4 2 0xF0F00 =
      { result := .passed, inUse := false, first := 8, last := 11, centre := 9, applied := 11, rate := .r6_4 } ∧
    (sweptLane .r6_4 (-8) 0x3).applied = 0 ∧ (sweptLane .r6_4 7 (1 <<< 63)).applied = 63 ∧
    (sweptLane .r6_4 0 0).result = .failed := by decide +kernel

theorem test_sweepEnds :
    let b := run (.sweepEnds .leaf (Vector.replicate 16 0xFF0)) (up.setLinkState .leaf .training)
    (b.port .leaf).training.usable = some .w16 ∧ b.linkState .leaf = .training := by decide +kernel

/-- IDENTIFY's reply for a command from Root (10 R174). -/
theorem test_identify :
    let b := run .identify (commanded 0 [] up)
    (b.queue .root .reply).map (·.pkt.payload.take 17) =
      [[13, 0, 0, 0, 0x02, 0xB7, 0x24, 0x40, 1, 9, 3, 3, 1, 1, 1, 0, 0]] ∧ b.engine.queue = [] := by
  decide +kernel

theorem test_unknownCommand :
    (((run .unknownCommand (commanded 2 [] up)).queue .root .reply).map (·.pkt.status)) = [7] := by decide +kernel

theorem test_accessSet :
    let b := run .accessSet (commanded 1 [0, 2] up)
    b.engine.leafOpen = false ∧ b.engine.resetForwarding = true := by decide +kernel

/-- 02 section 2.8: WINDOW_RETIRE of a LIVE window with references drains it and takes a deferred place. -/
theorem test_windowRetire :
    let b := run .windowRetire (commanded 26 [5] ((windowed up).setSlot 5
      { state := .live, window := window30, inflight := 2 }))
    (b.slot 5).state = .draining ∧ b.engine.deferred = [{ port := .root, src := 3, tag := 0x10, op := .retire 5 }] ∧
    b.engine.queue = [] := by decide +kernel

/-- WINDOW_LOAD with the record of window 5, then the record as loaded. -/
theorem test_windowLoad :
    let ops : List Byte := [5, 0, 0x26, 0, 30, 0, 0, 0, 0x40, 0, 0, 0, 0, 8, 0, 0, 0, 0, 0, 0, 0, 0, 0, 0]
    (run .windowLoad (commanded 24 ops up)).slot 5 = { state := .staged, window := window30, inflight := 0 } := by
  decide +kernel

theorem test_windowActivate :
    (run .windowActivate (commanded 25 [5] (up.setSlot 5 { state := .staged, window := window30, inflight := 0 }))).slot 5
      = { state := .live, window := window30, inflight := 0 } := by decide +kernel

theorem test_windowDiscard :
    (run .windowDiscard (commanded 27 [5] (up.setSlot 5 { state := .staged, window := window30, inflight := 0 }))).slot 5
      = Slot.free := by decide +kernel

theorem test_groupSet :
    let b := run .groupSet (commanded 29 [1, 0x18, 0, 0, 0] up)
    b.member 3 1 = true ∧ b.member 4 1 = true ∧ b.member 5 1 = false ∧ b.member 5 0 = true := by decide +kernel

theorem test_missPolicySet :
    (run .missPolicySet (commanded 31 [2, 3] up)).miss = { down := .reject, up := .pass } := by decide +kernel

theorem test_timerSet :
    let b := run .timerSet (commanded 32 [0x0F, 0xA0, 0, 0] up)
    b.deadlineMs = 4000 ∧ b.quarantineMs = 64 := by decide +kernel

theorem test_bufferPlanSet :
    let b := run .bufferPlanSet (commanded 16 [1, 2, 4, 8, 8, 38, 84] up)
    (b.port .leaf).ingress.pendingPlan = { stream := ⟨2, 4⟩, query := ⟨8, 8⟩, reply := ⟨38, 84⟩ } ∧
    (b.port .leaf).ingress.activePlan = defaultPlan ∧ (b.port .root).ingress.pendingPlan = defaultPlan := by
  decide +kernel

theorem test_arbiterSet :
    let b := run .arbiterSet (commanded 17 [2, 15, 255, 0] up)
    (b.port .root).egress.start = { reply := 15, stream := 2, query := 0 } ∧
    (b.port .leaf).egress.current = { reply := 15, stream := 2, query := 0 } := by decide +kernel

theorem test_linkSet :
    let b := run .linkSet (commanded 9 [0, 8, 0, 0xF8, 255] up)
    (b.port .root).record.pendingSettings = { widthCap := .w8, rateCap := .r12_8, trim := -8, replayTimeout := 255 } ∧
    (b.port .root).record.inForce = LinkSettings.cold := by decide +kernel

theorem test_linkRetrain :
    let b := run .linkRetrain (commanded 10 [1] up)
    b.linkState .leaf = .training ∧ (b.port .leaf).record.rate = .r3_2 ∧
    b.engine.deferred.map (·.op) = [.retrain .leaf true] := by decide +kernel

theorem test_linkPark :
    let b := run .linkPark (commanded 11 [1] up)
    b.linkState .leaf = .parked ∧ (b.port .leaf).out = [⟨.flit .park, some .w16⟩] ∧
    (b.queue .root .reply).map (·.pkt.status) = [0] := by decide +kernel

theorem test_linkWake :
    let b := run .linkWake (commanded 12 [1] (up.setLinkState .leaf .parked))
    b.linkState .leaf = .waking ∧ (b.port .leaf).out = [⟨.flit .wake, some .w16⟩] := by decide +kernel

/-- A record with every optional field, in the bytes of 11 Table 11-2. -/
theorem test_recordData :
    Record.data
      { kind := .discarded, port := .leaf, stamp := 0x01020304, src := some 31, addr := some 0x112233445566,
        tag := some 0xAB, slot := some 30, status := some 10, count := some 96 } =
      [12, 1, 0x3F, 31, 1, 2, 3, 4, 0x11, 0x22, 0x33, 0x44, 0x55, 0x66, 0xAB, 30, 10, 96, 0, 0] := by decide

theorem test_captureRead :
    let b := raise (bareRecord .checkFail .leaf 5) up
    let b' := run .captureRead (commanded 48 [] b)
    b'.capture = [] ∧ (b'.line 0).level = false ∧
    (b'.queue .root .reply).map (fun x => (x.pkt.payload.drop 4).take 16) =
      [[1, 1, 0, 0, 0, 0, 0x13, 0x88, 1, 1, 0, 0, 0, 0, 0, 5]] := by decide +kernel

theorem test_signalServiced :
    let l := { Line.cold with enabled := true, masked := false, level := true, state := .outstanding }
    let b := run .signalServiced (commanded 42 [7] (up.setLine 7 l))
    (b.line 7).state = .outstanding ∧ (b.queue .root .stream).length = 1 := by decide +kernel

/-- RST_N returns high: both ports send TRAIN; before it a packet does nothing. -/
theorem test_release :
    let b := run .rstNRelease State.reset.bridge
    b.rstLow = false ∧ (b.port .root).out = [⟨.flit (.train false .r3_2), some .w16⟩] ∧
    run (.packetReceived .root (sealFrame 0 putPacket)) State.reset.bridge = State.reset.bridge := by decide +kernel

/-- An attempt whose bound passes begins the next at 3.2 Gbit/s. -/
theorem test_attemptBoundPasses :
    let b := run (.attemptBoundPasses .root) (up.setLinkState .root .config)
    b.linkState .root = .training ∧ (b.port .root).record.attempts = 1 ∧ (b.port .root).record.rate = .r3_2 := by
  decide +kernel

/-- A passed deadline owes DONE TIMEOUT; the DONE pushed, the SENT entry is quarantined for 64 ms. -/
theorem test_deadlinePasses :
    let x := { Entry.allocated getPacket none 4000 with pos := .sent }
    let b := run (.deadlinePasses .down 0) (up.setEntry .down 0 x)
    let b' := run (.returningDonePushed .down 0) b
    b.capture.map (·.kind) = [.queryTimeout] ∧ (b.entry .down 0).owed = some .timeout ∧
    (b'.queue .root .reply).map (·.pkt) = [donePacket 9 3 0x41 .timeout] ∧
    (b'.entry .down 0).state = .quarantine ∧ (b'.entry .down 0).quarEnd = 69000 := by decide +kernel

/-! ### Witnesses: states that meet the hypotheses of each statement, clause by clause -/

theorem witness_StepRunsFrontCommand :
    ({ stateOf up with pending := [.identify, .rstNRelease] } : State).pending = .identify :: [.rstNRelease] := rfl

theorem witness_EveryStepCompletes :
    ((stateOf up).pending = [] ∧ (stateOf up).bridge.rstLow = false) ∧
    (State.reset.pending = [] ∧ State.reset.bridge.rstLow = true) := by decide

theorem witness_HeldLowUntilRelease :
    (State.reset.bridge.rstLow = true ∧ (∀ u l, Instr.takeSignal ≠ .coldReset u l) ∧ Instr.takeSignal ≠ .rstNRelease) ∧
    State.reset.bridge.engine.deferred = [] := by
  refine ⟨⟨rfl, nofun, nofun⟩, rfl⟩

theorem witness_RootResetWithForwarding :
    running (stateOf up) ∧ readFlit Flit.reset.onLanes = some .reset ∧
    (stateOf up).bridge.engine.resetForwarding = true := by decide +kernel

/-- Reset forwarding off. -/
def notForwarding : Bridge := up.onEngine fun e => { e with resetForwarding := false }

theorem witness_RootResetWithoutForwarding :
    running (stateOf notForwarding) ∧ readFlit Flit.reset.onLanes = some .reset ∧
    notForwarding.engine.resetForwarding = false ∧ (∀ c, notForwarding.hasRoom .root c = true) ∧
    (notForwarding.setQueue .root .reply fullQueue).hasRoom .root .reply = false := by
  refine ⟨by decide, by decide +kernel, by decide, ?_, by decide +kernel⟩
  intro c; cases c <;> decide

/-- Two packets in each replay buffer. -/
def replaying : Bridge :=
  (up.onSend .root fun s => { s with buffer := twoFramed, nextSeq := 5 }).onSend .leaf
    fun s => { s with buffer := twoFramed, nextSeq := 5 }

theorem witness_ResetTakenAtLeafRenumbers :
    running (stateOf replaying) ∧ readFlit Flit.reset.onLanes = some .reset ∧
    (replaying.port .leaf).send.buffer.length = 2 := by decide +kernel

/-- A good frame of a GET under a number. -/
def goodAt (n : Seq) : RxFrame := sealFrame n getPacket

theorem witness_FramesAreJudged :
    running (stateOf up) ∧ (up.setLinkState .root .parked).isActive .root = false ∧ up.isActive .root = true ∧
    goodFrame { goodAt 0 with check := #v[0, 0, 0, 0] } = false ∧
    (goodFrame (goodAt 0) = true ∧ ((goodAt 0).seq - (up.port .root).recv.expected).toNat = 0 ∧
      up.overrun .root (framePacket (goodAt 0)) = false) ∧
    (goodFrame (goodAt 1) = true ∧ ((goodAt 1).seq - (up.port .root).recv.expected).toNat = 1) ∧
    (goodFrame (goodAt 2047) = true ∧ ((goodAt 2047).seq - (up.port .root).recv.expected).toNat = 2047) ∧
    (goodFrame (goodAt 2048) = true ∧ ((goodAt 2048).seq - (up.port .root).recv.expected).toNat = 2048) ∧
    (goodFrame (goodAt 4095) = true ∧ ((goodAt 4095).seq - (up.port .root).recv.expected).toNat = 4095) := by
  decide +kernel

/-- An account of the Query class at Root. -/
def queryAccount (a : RxAccount) : Bridge := up.onAccount .root .query fun _ => a

theorem witness_CreditOverrunRetrains :
    running (stateOf (queryAccount RxAccount.zero)) ∧ (queryAccount RxAccount.zero).isActive .root = true ∧
    goodFrame (goodAt 0) = true ∧ (goodAt 0).seq = ((queryAccount RxAccount.zero).port .root).recv.expected ∧
    ((queryAccount RxAccount.zero).account .root (framePacket (goodAt 0)).cls).outstanding.headers - 1 <
      -(((queryAccount RxAccount.zero).account .root (framePacket (goodAt 0)).cls).allowance.headers : Int) ∧
    48 < ((queryAccount { RxAccount.zero with occupied := ⟨48, 0⟩ }).occupiedAll .root).headers + 1 ∧
    (queryAccount RxAccount.zero).capture.length < 16 ∧
    (queryAccount RxAccount.zero).overrun .root (framePacket (goodAt 0)) = true ∧
    (queryAccount { RxAccount.zero with outstanding := ⟨1, 0⟩ }).overrun .root (framePacket (goodAt 0)) = false ∧
    (queryAccount { RxAccount.zero with allowance := ⟨1, 0⟩ }).overrun .root (framePacket (goodAt 0)) = false ∧
    (queryAccount { RxAccount.zero with outstanding := ⟨1, 0⟩, occupied := ⟨47, 96⟩ }).overrun .root
      (framePacket (goodAt 0)) = false := by decide +kernel

/-- A port's state with the usable width found. -/
def swept (p : Port) (x : LinkState) : Bridge :=
  (up.setLinkState p x).onTraining p fun t => { t with usable := some .w16 }

theorem witness_TrainActsByState :
    running (stateOf up) ∧ readFlit (Flit.train true .r6_4).onLanes = some (.train true .r6_4) ∧
    readFlit (Flit.train false .r6_4).onLanes = some (.train false .r6_4) ∧
    up.linkState .leaf = .active ∧ (up.setLinkState .leaf .down).linkState .leaf = .down ∧
    ((up.setLinkState .leaf .training).linkState .leaf = .training ∧
      ((up.setLinkState .leaf .training).port .leaf).training.usable = none) ∧
    ((swept .leaf .training).linkState .leaf = .training ∧ ((swept .leaf .training).port .leaf).training.usable ≠ none ∧
      ((swept .leaf .training).port .leaf).training.keptConfig = none) ∧
    ((swept .leaf .config).linkState .leaf = .config ∧ ((swept .leaf .config).port .leaf).record.attempts < 2) ∧
    (((swept .leaf .config).onRecord .leaf fun r => { r with attempts := 2 }).port .leaf).record.attempts = 2 := by
  decide +kernel

/-- A CONFIG flit. -/
def configOf (rate : Rate) : ConfigFlit := ⟨.w8, true, rate, ⟨⟨2, 4⟩, ⟨6, 7⟩, ⟨37, 80⟩⟩⟩

/-- The Leaf port in CONFIG with a kept ACK, two packets to replay and some deferred commands. -/
def configuring (ds : List Deferred) : Bridge :=
  (((replaying.setLinkState .leaf .config).onTraining .leaf
    fun t => { t with usable := some .w16, keptAck := some 0 }).onRecord .leaf
      fun r => { r with rate := .r6_4 }).onEngine fun e => { e with deferred := ds }

/-- A listed LINK_RETRAIN of Leaf. -/
def retrainListed (running : Bool) : Deferred := { port := .root, src := 3, tag := 1, op := .retrain .leaf running }

theorem witness_ConfigTakenEntersActive :
    running (stateOf (configuring [])) ∧ readFlit (Flit.config (configOf .r6_4)).onLanes = some (.config (configOf .r6_4)) ∧
    (configuring []).linkState .leaf = .config ∧ ((configuring []).port .leaf).training.usable = some .w16 ∧
    (Rate.min ((configuring []).port .leaf).record.inForce.rateCap .r6_4).code.toNat ≥
      ((configuring []).port .leaf).record.rate.code.toNat ∧
    (configuring []).engine.deferred.find? (·.retrains .leaf) = none ∧
    ((configuring [retrainListed true]).engine.deferred.find? (·.retrains .leaf) = some (retrainListed true) ∧
      (retrainListed true).op = .retrain .leaf true) ∧
    ((configuring [retrainListed false]).engine.deferred.any (·.retrains .leaf) = true ∧
      ∀ d ∈ (configuring [retrainListed false]).engine.deferred, d.op ≠ .retrain .leaf true) := by decide +kernel

theorem witness_ConfigKeptDiscardedOrFails :
    running (stateOf up) ∧ readFlit (Flit.config (configOf .r3_2)).onLanes = some (.config (configOf .r3_2)) ∧
    ((up.setLinkState .leaf .training).linkState .leaf = .training ∧
      ((up.setLinkState .leaf .training).port .leaf).training.usable = none ∧
      ((up.setLinkState .leaf .training).port .leaf).training.keptConfig = none) ∧
    ((swept .leaf .training).linkState .leaf = .training ∧ ((swept .leaf .training).port .leaf).training.usable ≠ none ∧
      ((swept .leaf .training).port .leaf).training.keptConfig = none) ∧
    up.linkState .leaf = .active ∧
    ((configuring []).linkState .leaf = .config ∧
      (Rate.min ((configuring []).port .leaf).record.inForce.rateCap .r3_2).code.toNat <
        ((configuring []).port .leaf).record.rate.code.toNat ∧
      ((configuring []).port .leaf).record.attempts < 2) ∧
    (((configuring []).onRecord .leaf fun r => { r with attempts := 2 }).port .leaf).record.attempts = 2 := by
  decide +kernel

theorem witness_AckRemovesEntries :
    running (stateOf replaying) ∧ readFlit (Flit.ack 5).onLanes = some (.ack 5) ∧
    readFlit (Flit.ack 4).onLanes = some (.ack 4) ∧ replaying.linkState .leaf = .active ∧
    (replaying.port .leaf).send.buffer = frame 3 getPacket :: [frame 4 getPacket] ∧
    (replaying.port .leaf).send.buffer.length ≤ ((5 : Seq) - 3).toNat ∧
    ((4 : Seq) - 3).toNat < (replaying.port .leaf).send.buffer.length ∧ (up.port .leaf).send.buffer = [] ∧
    ((up.setLinkState .leaf .training).linkState .leaf = .training ∧
      ((up.setLinkState .leaf .training).port .leaf).training.keptConfig = none) ∧
    (up.setLinkState .leaf .parked).linkState .leaf = .parked := by decide +kernel

/-- The Leaf send side changed. -/
def sending (f : SendSide → SendSide) : Bridge := replaying.onSend .leaf f

theorem witness_NakTriggersReplay :
    running (stateOf replaying) ∧ readFlit (Flit.nak 4).onLanes = some (.nak 4) ∧
    readFlit (Flit.nak 5).onLanes = some (.nak 5) ∧ readFlit (Flit.nak 6).onLanes = some (.nak 6) ∧
    (up.setLinkState .leaf .parked).isActive .leaf = false ∧
    (up.isActive .leaf = true ∧ (up.port .leaf).send.buffer = [] ∧ (up.port .leaf).send.replayPos = none ∧
      (up.port .leaf).send.timerStart = none) ∧
    replaying.isActive .leaf = true ∧ (replaying.port .leaf).send.buffer = frame 3 getPacket :: [frame 4 getPacket] ∧
    ((4 : Seq) - 3).toNat < (replaying.port .leaf).send.buffer.length ∧ (replaying.port .leaf).send.replayCount < 4 ∧
    4 ≤ ((sending fun s => { s with replayCount := 4 }).port .leaf).send.replayCount ∧
    ((5 : Seq) - 3).toNat = (replaying.port .leaf).send.buffer.length ∧
    (replaying.port .leaf).send.buffer.length < ((6 : Seq) - 3).toNat ∧ (replaying.port .leaf).send.replayPos = none ∧
    ((sending fun s => { s with replayPos := some 1 }).port .leaf).send.replayPos ≠ none := by decide +kernel

theorem witness_CreditRaisesHeldCounts :
    running (stateOf up) ∧ readFlit (Flit.credit ⟨⟨2, 3⟩, ⟨0, 0⟩, ⟨0, 0⟩⟩).onLanes = some (.credit ⟨⟨2, 3⟩, ⟨0, 0⟩, ⟨0, 0⟩⟩) ∧
    (up.setLinkState .root .parked).isActive .root = false ∧ up.isActive .root = true := by decide +kernel

/-- A listed LINK_PARK of Leaf with a bound. -/
def parkListed (bound : Time) : Deferred := { port := .root, src := 3, tag := 1, op := .park .leaf bound }

/-- A part with deferred commands. -/
def listed (ds : List Deferred) : Bridge := up.onEngine fun e => { e with deferred := ds }

theorem witness_ParkWakeIdleByState :
    running (stateOf up) ∧ noDrain up .leaf ∧ up.engine.deferred.any (·.retrains .leaf) = false ∧
    (readFlit Flit.park.onLanes = some .park ∧ up.linkState .leaf = .active ∧ up.drained .leaf = true) ∧
    replaying.drained .leaf = false ∧
    (readFlit Flit.wake.onLanes = some .wake ∧ (up.setLinkState .leaf .waking).linkState .leaf = .waking) ∧
    (up.setLinkState .leaf .parked).linkState .leaf = .parked ∧ (up.setLinkState .leaf .parked).linkState .leaf ≠ .active ∧
    (up.linkState .leaf ≠ .parked ∧ up.linkState .leaf ≠ .waking) := by
  unfold noDrain; decide +kernel

/-- A drain in ACTIVE, and a LINK_RETRAIN that waits, or whose training ran, in WAKING and PARKED. -/
theorem witness_ParkWakeIdleByState_listed :
    let drain := listed [parkListed 9000]
    let waits := fun x : LinkState => (listed [retrainListed false]).setLinkState .leaf x
    let ran := fun x : LinkState => (listed [retrainListed true]).setLinkState .leaf x
    (drain.linkState .leaf = .active ∧ drain.drained .leaf = true ∧
      drain.engine.deferred.filter (·.parks .leaf) = [parkListed 9000] ∧ (parkListed 9000).op = .park .leaf 9000) ∧
    (∀ x ∈ [LinkState.waking, .parked], (waits x).linkState .leaf = x ∧
      (waits x).engine.deferred.any (·.retrains .leaf) = true ∧
      (∀ d ∈ (waits x).engine.deferred, d.op ≠ .retrain .leaf true) ∧ noDrain (waits x) .leaf ∧
      (ran x).engine.deferred.find? (·.retrains .leaf) = some (retrainListed true)) ∧
    (retrainListed true).op = .retrain .leaf true := by
  unfold noDrain; decide +kernel

/-- The waiting LINK_RETRAIN of a PARKED Leaf begins its training behind the WAKE answer, at the lower of the rate cap
and the partner's maximum. -/
theorem test_wakeReceived_retrain :
    let b := run (.wakeReceived .leaf Flit.wake.onLanes) ((listed [retrainListed false]).setLinkState .leaf .parked)
    b.linkState .leaf = .training ∧ (b.port .leaf).record.cause = .retrain ∧ b.engine.deferred = [retrainListed true] ∧
    (b.port .leaf).out.map (·.item) = [.flit .wake, .flit (.train false (b.port .leaf).record.rate)] := by decide +kernel

/-- Lane masks of which the first `n` lanes pass some codes. -/
def lanesUpTo (n : Nat) : Vector (BitVec 64) 16 := Vector.ofFn fun i => if i.val < n then 0xFF0 else 0

/-- The lane records of such a sweep. -/
def recordsUpTo (n : Nat) : Vector LaneRec 16 := (lanesUpTo n).mapIdx fun _ l => sweptLane .r3_2 0 l

theorem witness_SweepFindsUsableWidth :
    let b := (up.setLinkState .leaf .training).onRecord .leaf fun r => { r with rate := .r3_2 }
    running (stateOf b) ∧ b.linkState .leaf = .training ∧ (b.port .leaf).training.usable = none ∧
    (b.port .leaf).training.keptConfig = none ∧ (b.port .leaf).record.attempts < 2 ∧
    ((b.onTraining .leaf fun t => { t with keptConfig := some (configOf .r3_2) }).port .leaf).training.keptConfig =
      some (configOf .r3_2) ∧ readFlit (Flit.config (configOf .r3_2)).onLanes = some (.config (configOf .r3_2)) ∧
    usableWidth (recordsUpTo 16) .w16 = some .w16 ∧ usableWidth (recordsUpTo 15) .w16 = some .w8 ∧
    usableWidth (recordsUpTo 4) .w16 = some .w4 ∧ usableWidth (recordsUpTo 16) .w4 = some .w4 ∧
    usableWidth (recordsUpTo 3) .w16 = none ∧
    ((b.onRecord .leaf fun r => { r with attempts := 2 }).port .leaf).record.attempts = 2 := by decide +kernel

/-- Trims that leave the range at either end, and one that does not. -/
theorem witness_SweptLaneHoldsWidestRun :
    (0 : BitVec 64) = 0 ∧ (1 : BitVec 64) ≠ 0 ∧ ((sweptLane .r3_2 (-8) 0x3FFF).centre : Int) + -8 < 0 ∧
    63 < ((sweptLane .r3_2 1 (1 <<< 63)).centre : Int) + 1 ∧ ((sweptLane .r3_2 0 (1 <<< 63)).centre : Int) + 0 = 63 ∧
    ((sweptLane .r3_2 0 1).centre : Int) + 0 = 0 := by decide +kernel

/-- The Leaf record changed at a moment. -/
def attempting (x : LinkState) (n : Nat) : Bridge :=
  (up.setLinkState .leaf x).onRecord .leaf fun r => { r with attempts := n, attemptStart := 3000 }

theorem witness_AttemptAndWakeBounds :
    running (stateOf (attempting .training 1)) ∧
    (∀ x ∈ [LinkState.training, .config], ∀ n ∈ [0, 1, 2],
      (attempting x n).linkState .leaf = x ∧ ((attempting x n).port .leaf).record.attempts = n ∧
      reached (attempting x n).timeBase (after ((attempting x n).port .leaf).record.attemptStart 2000) = true) ∧
    (((attempting .config 2).onEngine fun e => { e with deferred := [retrainListed true] }).engine.deferred.filter
      (·.retrains .leaf) = [retrainListed true] ∧ (retrainListed true).op = .retrain .leaf true) ∧
    ((up.setLinkState .leaf .waking).linkState .leaf = .waking ∧
      reached (up.setLinkState .leaf .waking).timeBase
        (after ((up.setLinkState .leaf .waking).port .leaf).training.wakeStart 2000) = true) := by decide +kernel

/-- Two packets are flushed, and nobody waits. -/
theorem witness_AttemptAndWakeBounds_quiet :
    let b := (attempting .training 2).setQueue .leaf .stream [queuedAt 0 putPacket, queuedAt 1 putPacket]
    LostQuietly b .leaf ∧ (flushed b .leaf).map (·.count) = [some 2] := by
  refine ⟨⟨?_, ?_, ?_, ?_, ?_, ?_⟩, ?_⟩
  · intro c; cases c <;> decide
  all_goals decide +kernel

theorem witness_ParkDrainEnds :
    running (stateOf (listed [parkListed 5000])) ∧
    (listed [parkListed 5000]).engine.deferred.find? (·.parks .leaf) = some (parkListed 5000) ∧
    (parkListed 5000).op = .park .leaf 5000 ∧
    ((listed [parkListed 5000]).isActive .leaf = true ∧ (listed [parkListed 5000]).drained .leaf = true ∧
      ((listed [parkListed 5000]).port .leaf).send.replayPos = none) ∧
    reached (listed [parkListed 5000]).timeBase 5000 = true ∧
    ((listed [parkListed 5000]).engine.deferred.filter (·.parks .leaf) = [parkListed 5000] ∧
      readFlit (Flit.train false .r6_4).onLanes = some (.train false .r6_4)) := by decide +kernel

/-- A running replay timer at Leaf. -/
def timed (start : Time) (n : Nat) : Bridge := sending fun s => { s with timerStart := some start, replayCount := n }

theorem witness_ReplayTimerExpiry :
    running (stateOf (timed 4980 3)) ∧ (timed 4980 3).isActive .leaf = true ∧ ((timed 4980 3).port .leaf).send.buffer ≠ [] ∧
    ((timed 4980 3).port .leaf).send.replayPos = none ∧ ((timed 4980 3).port .leaf).send.timerStart = some 4980 ∧
    reached (timed 4980 3).timeBase (after 4980 ((timed 4980 3).port .leaf).record.inForce.replayTimeout) = true ∧
    reached (timed 4981 3).timeBase (after 4981 ((timed 4981 3).port .leaf).record.inForce.replayTimeout) = false ∧
    ((timed 4980 3).port .leaf).send.replayCount < 4 ∧ 4 ≤ ((timed 4980 4).port .leaf).send.replayCount := by
  decide +kernel

theorem witness_RepeatsEveryTenMicroseconds :
    let c := (configuring []).onTraining .leaf fun t => { t with sentConfig := some (configOf .r6_4), lastConfig := 4990 }
    running (stateOf up) ∧
    (up.isActive .root = true ∧ reached up.timeBase (after (up.port .root).ingress.lastCredit 10) = true ∧
      ∀ k ∈ [Cls.stream, .query, .reply], (up.account .root k).freed = ⟨0, 0⟩) ∧
    (let b := up.onAccount .root .query fun a => { a with freed := ⟨1, 4⟩ }
     b.isActive .root = true ∧ reached b.timeBase (after (b.port .root).ingress.lastCredit 10) = true) ∧
    (c.linkState .leaf = .config ∧ reached c.timeBase (after (c.port .leaf).training.lastConfig 10) = true ∧
      (c.port .leaf).training.sentConfig = some (configOf .r6_4)) ∧
    ((up.setLinkState .leaf .waking).linkState .leaf = .waking ∧
      reached (up.setLinkState .leaf .waking).timeBase
        (after ((up.setLinkState .leaf .waking).port .leaf).training.lastWake 10) = true) := by decide +kernel

/-- The bounds at which the repeats end, reached exactly and one µs short. -/
theorem witness_RepeatsEveryTenMicroseconds_bounds :
    let late := fun x : LinkState => { attempting x 1 with timeBase := 4999 }
    let waking := (up.setLinkState .leaf .waking).onTraining .leaf fun t => { t with wakeStart := 3000 }
    (∀ x ∈ [LinkState.training, .config], (attempting x 1).linkState .leaf = x ∧
      reached (attempting x 1).timeBase (after ((attempting x 1).port .leaf).record.attemptStart 2000) = true ∧
      reached (late x).timeBase (after ((late x).port .leaf).record.attemptStart 2000) = false) ∧
    (¬(up.linkState .leaf = .training ∨ up.linkState .leaf = .config) ∧ up.linkState .leaf ≠ .waking) ∧
    (waking.linkState .leaf = .waking ∧ reached waking.timeBase (after (waking.port .leaf).training.wakeStart 2000) = true ∧
      reached 4999 (after (waking.port .leaf).training.wakeStart 2000) = false) := by decide +kernel

/-- Something to send in two classes at Leaf. -/
def busy : Bridge :=
  (up.setQueue .leaf .reply [queuedAt 0 (doneReply 0)]).setQueue .leaf .query
    [{ queuedAt 1 getPacket with mark := some ⟨.down, 0⟩ }]

theorem witness_ArbiterPicksByAging :
    busy.winner .leaf = some .reply ∧ busy.eligible .leaf .query = true ∧ busy.eligible .leaf .stream = false := by
  decide +kernel

/-- A Leaf with one marked query, its entry in a state and at a position. -/
def querying (st : EntryState) (pos : QueryPos) : Bridge :=
  (busy.setQueue .leaf .reply []).setEntry .down 0 { Entry.allocated getPacket none 21000 with state := st, pos := pos }

theorem witness_ArbiterSendsHead :
    (running (stateOf busy) ∧ busy.sendOpportunity .leaf = true ∧ busy.winner .leaf = some .reply ∧
      busy.queue .leaf .reply = queuedAt 0 (doneReply 0) :: [] ∧ (busy.port .leaf).recv.nakDue = false ∧
      (busy.port .leaf).recv.ackDue = false ∧ busy.creditDue .leaf = false ∧ busy.hasRoom .leaf .reply = true ∧
      (queuedAt 0 (doneReply 0)).mark = none) ∧
    ((querying .quarantine .queued).winner .leaf = some .query ∧
      (querying .quarantine .queued).queue .leaf .query = { queuedAt 1 getPacket with mark := some ⟨.down, 0⟩ } :: [] ∧
      ((querying .quarantine .queued).entry .down 0).state ≠ .free ∧
      ((querying .quarantine .queued).entry .down 0).pos = .queued) ∧
    ((querying .waiting .sent).entry .down 0).pos ≠ .queued := by decide +kernel

/-- Leaf with an answer due, a CREDIT flit due, or both. -/
def owing (nak ack credit : Bool) (b : Bridge) : Bridge :=
  (b.onRecv .leaf fun r => { r with nakDue := nak, ackDue := ack }).onAccount .leaf .reply
    fun a => { a with freed := ⟨if credit then 1 else 0, 0⟩ }

/-- Each case of the due flits, at a decision and at a replay; and a part with nothing to send. -/
theorem witness_ArbiterSendsHead_due :
    (∀ nak ∈ [true, false], ∀ ack ∈ [true, false], ∀ credit ∈ [true, false],
      (owing nak ack credit busy).sendOpportunity .leaf = true ∧ (owing nak ack credit busy).winner .leaf = some .reply ∧
      ((owing nak ack credit busy).port .leaf).recv.nakDue = nak ∧
      ((owing nak ack credit busy).port .leaf).recv.ackDue = ack ∧
      (owing nak ack credit busy).creditDue .leaf = credit) ∧
    up.winner .leaf = none ∧ (up.setLinkState .leaf .parked).sendOpportunity .leaf = false := by decide +kernel

/-- A due NAK goes ahead of the packet, and a due CREDIT flit too; a NAK serves for a due ACK. -/
theorem test_arbiterDecision_due :
    let sent := fun b : Bridge => ((run (.arbiterDecision .leaf) b).port .leaf).out.map (·.item)
    sent (owing true true false busy) = [.flit (.nak 0), .packet (frame 0 (doneReply 0))] ∧
    (sent (owing false false true busy)).map (fun i => match i with | .flit (.credit t) => t.reply.headers | _ => 0) = [1, 0] := by
  decide +kernel

/-- The queue is full, and its head wins; the first waiting pusher is a RETURNING entry, a waiting reply, or a head. -/
theorem witness_ArbiterSendsHead_offering :
    let b := (up.setQueue .leaf .reply (List.replicate 32 (queuedAt 0 (doneReply 0))))
    let returned := b.setEntry .up 9 { Entry.allocated getPacket none 21000 with state := .returning, owed := some .failed }
    let waits := b.onEngine fun e =>
      { e with waiting := [⟨.root, doneReply 0, false⟩, ⟨.leaf, doneReply 0, false⟩, ⟨.leaf, doneReply 1, false⟩] }
    (b.sendOpportunity .leaf = true ∧ b.winner .leaf = some .reply ∧ (b.queue .leaf .reply).length = 32 ∧
      (busy.queue .leaf .reply).length < 32) ∧
    ((returned.entry Port.leaf.dir 9).state = .returning ∧ (returned.entry Port.leaf.dir 9).owed = some .failed ∧
      ∀ e, (returned.entry Port.leaf.dir e).state = .returning → 9 ≤ e) ∧
    ((∀ e, (waits.entry Port.leaf.dir e).state ≠ .returning) ∧
      waits.engine.waiting = [⟨.root, doneReply 0, false⟩] ++ ⟨.leaf, doneReply 0, false⟩ :: [⟨.leaf, doneReply 1, false⟩]) ∧
    ((∀ e, (b.entry Port.leaf.dir e).state ≠ .returning) ∧ b.engine.waiting = [] ∧ Cls.reply ≠ .stream) := by
  decide +kernel

theorem witness_OrderedPacketWaitsForStream :
    let b := (up.setQueue .leaf .query [queuedAt 1 getPacket]).setQueue .leaf .stream [queuedAt 2 putPacket]
    let b := b.onPort .leaf fun s => { s with egress := { s.egress with current := ⟨2, 0, 1⟩ } }
    b.winner .leaf = some .query ∧ b.queue .leaf .query = queuedAt 1 getPacket :: [] ∧ Cls.query ≠ .stream ∧
    (queuedAt 1 getPacket).pkt.ordered = true ∧ queuedAt 2 putPacket ∈ b.queue .leaf .stream := by decide +kernel

theorem witness_ReplayResendsEntry :
    let b := sending fun s => { s with replayPos := some 1 }
    running (stateOf b) ∧ b.isActive .leaf = true ∧ (b.port .leaf).send.replayPos = some 1 ∧
    (b.port .leaf).send.buffer[1]? = some (frame 4 getPacket) ∧ (b.port .leaf).recv.nakDue = false ∧
    (b.port .leaf).recv.ackDue = false ∧ b.creditDue .leaf = false ∧ (up.port .leaf).send.replayPos = none := by
  decide +kernel

/-- Each case of the due flits at a replay. -/
theorem witness_ReplayResendsEntry_due :
    let b := sending fun s => { s with replayPos := some 1 }
    ∀ nak ∈ [true, false], ∀ ack ∈ [true, false], ∀ credit ∈ [true, false],
      ((owing nak ack credit b).port .leaf).send.replayPos = some 1 ∧
      ((owing nak ack credit b).port .leaf).recv.nakDue = nak ∧ ((owing nak ack credit b).port .leaf).recv.ackDue = ack ∧
      (owing nak ack credit b).creditDue .leaf = credit := by decide +kernel

theorem witness_DueFlitsAreSent :
    let b := up.onRecv .leaf fun r => { r with ackDue := true, nakDue := true, ackBound := some 5000 }
    let b := b.onAccount .leaf .reply fun a => { a with freed := ⟨1, 0⟩ }
    running (stateOf b) ∧ b.isActive .leaf = true ∧ (b.port .leaf).recv.ackBound = some 5000 ∧
    reached b.timeBase 5000 = true ∧ (b.port .leaf).recv.ackDue = true ∧ (b.port .leaf).recv.nakDue = true ∧
    b.creditDue .leaf = true := by decide +kernel

/-- The first and last address of slot 5's range hit it; the ones beside miss. -/
theorem witness_LookupTakesLowestSlot :
    (windowed up).lookup .down 0x40000000 = some 5 ∧ (windowed up).lookup .down 0x7FFFFFFF = some 5 ∧
    (windowed up).lookup .down 0x3FFFFFFF = none ∧ (windowed up).lookup .down 0x80000000 = none ∧
    (windowed up).lookup .up 0x40000000 = none := by decide +kernel

/-- A packet at the head of a Root pool, over a part. -/
def headed (k : Packet) (b : Bridge) : State := stateOf (buffered .root k b)

/-- A Leaf that is DOWN. -/
def leafDown (b : Bridge) : Bridge := b.setLinkState .leaf .down

/-- A downbound miss policy. -/
def missing (m : MissPolicy) : Bridge := { up with miss := { down := m, up := .pass } }

/-- A window for addresses below 2^32 that denies writing and admits group 1 only, which is empty. -/
def deniedWindow : Bridge :=
  up.setSlot 7
    { state := .live, inflight := 0,
      window := { window30 with base := 0, sizeExp := 32, translation := none, writeAllowed := false, group := 1 } }

/-- A window with early acknowledge. -/
def earlyWindow (b : Bridge) : Bridge :=
  b.setSlot 7 { state := .live, inflight := 0, window := { window30 with base := 0, translation := none, earlyAck := true } }

theorem witness_TakePutRoutes :
    let k := { putPacket with addr := 0x40009000 }
    let s := headed k (windowed up)
    (running s ∧ s.bridge.pool .root .stream = k :: [] ∧ k.kind = .put ∧ malformed .root k = false) ∧
    (s.bridge.lookup .down k.addr = some 5 ∧ s.bridge.member k.src (s.bridge.slot 5).window.group = true ∧
      (s.bridge.slot 5).window.writeAllowed = true ∧ s.bridge.isDown .leaf = false ∧ s.bridge.hasRoom .leaf .stream = true) ∧
    (leafDown s.bridge).isDown .leaf = true ∧ (s.bridge.setQueue .leaf .stream fullQueue).hasRoom .leaf .stream = false ∧
    (deniedWindow.lookup .down putPacket.addr = some 7 ∧
      deniedWindow.member putPacket.src (deniedWindow.slot 7).window.group = false ∧
      (deniedWindow.slot 7).window.writeAllowed = false) ∧
    (up.lookup .down putPacket.addr = none ∧ up.miss.get .down = .pass) ∧
    ((missing .reflect).lookup .down putPacket.addr = none ∧ (missing .reflect).miss.get .down = .reflect ∧
      (missing .reflect).hasPlace .root .stream = true) ∧
    (missing .reject).miss.get .down = .reject := by decide +kernel

theorem witness_TakeGetSetThroughWindow :
    let s := headed getPacket (windowed up)
    let e := headed setPacket (earlyWindow up)
    let spec := { getPacket with speculative := true, len := 63 }
    (running s ∧ s.bridge.pool .root .query = getPacket :: [] ∧ getPacket.kind = .get ∧
      malformed .root getPacket = false ∧ s.bridge.lookup .down getPacket.addr = some 5 ∧
      (s.bridge.member 3 (s.bridge.slot 5).window.group && (s.bridge.slot 5).window.readAllowed) = true ∧
      s.bridge.isDown .leaf = false ∧ s.bridge.hasRoom .leaf .query = true ∧ s.bridge.freeEntry? .down = some 0) ∧
    (deniedWindow.lookup .down getPacket.addr = some 7 ∧
      (deniedWindow.member 3 (deniedWindow.slot 7).window.group && true) = false ∧
      deniedWindow.hasPlace .root .reply = true) ∧
    (malformed .root spec = false ∧ (spec.speculative && !(s.bridge.slot 5).window.specAllowed) = true) ∧
    ((leafDown s.bridge).isDown .leaf = true ∧ (leafDown s.bridge).hasPlace .root .reply = true) ∧
    (running e ∧ e.bridge.pool .root .query = setPacket :: [] ∧ setPacket.kind = .set ∧
      malformed .root setPacket = false ∧ e.bridge.lookup .down setPacket.addr = some 7 ∧
      (e.bridge.slot 7).window.earlyAck = true ∧ e.bridge.isDown .leaf = false ∧ e.bridge.hasRoom .leaf .stream = true ∧
      e.bridge.hasPlace .root .reply = true) := by decide +kernel

theorem witness_TakeGetSetOnMiss :
    let s := headed getPacket up
    (running s ∧ s.bridge.pool .root .query = getPacket :: [] ∧ getPacket.kind = .get ∧
      malformed .root getPacket = false ∧ s.bridge.lookup .down getPacket.addr = none ∧
      s.bridge.miss.get .down = .pass ∧ s.bridge.isDown .leaf = false ∧ s.bridge.hasRoom .leaf .query = true ∧
      s.bridge.freeEntry? .down = some 0) ∧
    ((leafDown s.bridge).isDown .leaf = true ∧ (leafDown s.bridge).hasPlace .root .reply = true) ∧
    ((missing .reflect).miss.get .down = .reflect ∧ (missing .reflect).hasPlace .root .query = true) ∧
    ((missing .reject).miss.get .down = .reject ∧ (missing .reject).hasPlace .root .reply = true) := by decide +kernel

theorem witness_TakeManageRoutes :
    let k := managePacket 0 []
    let s := headed k up
    let other := { k with dst := 20 }
    let closed := buffered .leaf k (up.onEngine fun e => { e with leafOpen := false })
    let full := buffered .root k (buffered .root getPacket (up.setQueue .leaf .query fullQueue))
    (running s ∧ s.bridge.pool .root .query = k :: [] ∧ k.kind = .manage ∧ malformed .root k = false ∧
      k.dst = s.bridge.unit ∧ s.bridge.engine.queue.length < 8) ∧
    (closed.pool .leaf .query = k :: [] ∧ k.dst = closed.unit ∧ closed.engine.leafOpen = false ∧
      closed.hasPlace .leaf .reply = true) ∧
    ((buffered .root other up).pool .root .query = other :: [] ∧ malformed .root other = false ∧ other.dst ≠ up.unit ∧
      up.isDown .leaf = false ∧ up.hasRoom .leaf .query = true ∧ up.freeEntry? .down = some 0) ∧
    ((leafDown up).isDown .leaf = true ∧ (leafDown up).hasPlace .root .reply = true) ∧
    (candidate? full .root = some 1 ∧ (full.pool .root .query)[1]? = some k ∧ full.engine.queue.length < 8) := by
  decide +kernel

/-- Line 7 in a state. -/
def lined (st : LineState) (enabled masked : Bool) (b : Bridge) : Bridge :=
  b.setLine 7 { Line.cold with enabled := enabled, masked := masked, state := st }

theorem witness_TakeSignalSetsLevel :
    let b := buffered .leaf (signalPacket true) (lined .idle true false up)
    let d := buffered .leaf (signalPacket false) (lined .pending true false up)
    (running (stateOf b) ∧ b.pool .leaf .stream = signalPacket true :: [] ∧ (signalPacket true).kind = .signal ∧
      malformed .leaf (signalPacket true) = false ∧ (signalPacket true).line = 7 ∧ (signalPacket true).topInfo = true ∧
      (b.line 7).state = .idle ∧ (b.line 7).enabled = true ∧ (b.line 7).masked = false) ∧
    ((lined .outstanding true false up).line 7).state ≠ .idle ∧
    (d.pool .leaf .stream = signalPacket false :: [] ∧ malformed .leaf (signalPacket false) = false ∧
      (signalPacket false).topInfo = false ∧ (d.line 7).state = .pending) ∧
    ((lined .idle true false up).line 7).state ≠ .pending := by decide +kernel

/-- The lowest PENDING line is the first waiting pusher of the Root Stream queue. -/
theorem witness_ArbiterSendsHead_line :
    let b := (lined .pending true false up).setLine 63 { Line.cold with enabled := true, masked := false, state := .pending }
    (b.line 7).state = .pending ∧ ∀ j, (b.line j).state = .pending → 7 ≤ j := by decide +kernel

/-- Line 0 asserted by the flush record notifies before line 7, which is OUTSTANDING; a masked line does not; a window
whose last reference goes is FREE only from DRAINING. -/
theorem witness_RootReset_linesAndSlots :
    let b := (lined .outstanding true false busy).setLine 0 { Line.cold with enabled := true, masked := false }
    let c := b.setLine 7 { b.line 7 with level := true }
    (flushed b .leaf).map (·.count) = [some 2] ∧ flushed b .root = [] ∧
    notifyingAtReset b true true = [0] ∧ notifyingAtReset c false true = [0, 7] ∧ notifyingAtReset c true false = [] ∧
    notifyingAtReset (lined .idle true true b) false true = [0] ∧
    slotReleased { state := .draining, window := window30, inflight := 1 } 1 = Slot.free ∧
    slotReleased { state := .live, window := window30, inflight := 1 } 1 =
      { state := .live, window := window30, inflight := 0 } ∧
    slotReleased { state := .draining, window := window30, inflight := 2 } 1 =
      { state := .draining, window := window30, inflight := 1 } := by decide +kernel

/-- Entry 0 of the Downbound table: a GET of 4 blocks. -/
def entered (st : EntryState) (pos : QueryPos) (b : Bridge) : Bridge :=
  b.setEntry .down 0
    { Entry.allocated getPacket none 21000 with state := st, pos := pos, owed := if st = .returning then some .failed else none }

theorem witness_TakeReplyByEntry :
    let k := dataPacket false 0
    let b := buffered .leaf k (entered .waiting .sent up)
    (running (stateOf b) ∧ b.pool .leaf .reply = k :: [] ∧ k.kind = .data ∧ malformed .leaf k = false ∧ k.dst = b.unit ∧
      k.tag.toNat = (0 : Fin 64).val ∧ (b.entry .down 0).state = .waiting ∧ (b.entry .down 0).pos = .sent ∧
      goodReply (b.entry .down 0) k = true ∧ b.hasPlace .root .reply = true ∧ k.final = false) ∧
    (goodReply (b.entry .down 0) (doneReply 1) = true ∧ (doneReply 1).final = true ∧ malformed .leaf (doneReply 1) = false) ∧
    (goodReply (b.entry .down 0) (dataPacket false 1) = false ∧ malformed .leaf (dataPacket false 1) = false) ∧
    (((entered .returning .sent up).entry .down 0).state = .returning ∧
      ((entered .returning .sent up).entry .down 0).pos = .sent) ∧
    (((entered .quarantine .sent up).entry .down 0).state = .quarantine ∧
      ((entered .quarantine .sent up).entry .down 0).pos = .sent) ∧
    ((up.entry .down 0).state = .free ∧ ((entered .waiting .queued up).entry .down 0).pos ≠ .sent) ∧
    (({ k with dst := 8 } : Packet).dst ≠ up.unit ∧ 64 ≤ ({ k with tag := 64 } : Packet).tag.toNat) := by decide +kernel

theorem witness_TakeMalformedDiscards :
    let get := { getPacket with blocks := 1 }
    let put := { putPacket with blocks := 2 }
    let s := headed get up
    (running s ∧ s.bridge.pool .root .query = get :: [] ∧ malformed .root get = true ∧ get.kind = .get ∧
      s.bridge.hasPlace .root .reply = true) ∧
    ((buffered .root put up).pool .root .stream = put :: [] ∧ malformed .root put = true ∧ put.kind = .put) ∧
    (malformed .root (signalPacket true) = true ∧ malformed .root (Packet.zero .none7) = true) ∧
    malformed .root { managePacket 0 [] with speculative := true } = true ∧
    (malformed .leaf (doneReply 12) = true ∧ (doneReply 12).kind = .done ∧ (doneReply 12).dst = up.unit ∧
      (doneReply 12).tag.toNat = (0 : Fin 64).val ∧ ({ doneReply 12 with dst := 8 } : Packet).dst ≠ up.unit) ∧
    (malformed .root { putPacket with addr := 0x9FC0 } = false ∧ malformed .root { putPacket with addr := 0x9FC1 } = true ∧
      malformed .leaf (doneReply 10) = false ∧ malformed .leaf (doneReply 11) = true) ∧
    (∀ st ∈ [EntryState.waiting, .returning, .quarantine], ((entered st .sent up).entry .down 0).state = st ∧
      ((entered st .sent up).entry .down 0).pos = .sent) := by
  decide +kernel

theorem witness_EntryTimersPass :
    let w := up.setEntry .down 0 { Entry.allocated getPacket none 5000 with state := .waiting }
    let q := fun pos : QueryPos => up.setEntry .down 0
      { Entry.allocated getPacket none 0 with state := .quarantine, pos := pos, quarEnd := 5000 }
    running (stateOf w) ∧ ((w.entry .down 0).state = .waiting ∧ reached w.timeBase (w.entry .down 0).deadline = true) ∧
    (∀ pos ∈ [QueryPos.sent, .queued, .cleared], ((q pos).entry .down 0).state = .quarantine ∧
      reached (q pos).timeBase ((q pos).entry .down 0).quarEnd = true ∧ ((q pos).entry .down 0).pos = pos) ∧
    (up.entry .down 0).state ≠ .waiting ∧ (up.entry .down 0).state ≠ .quarantine := by decide +kernel

/-- Slot 5 DRAINING with references, entry 0 naming it, and deferred commands. -/
def draining (n : Nat) (ds : List Deferred) : Bridge :=
  ((up.setSlot 5 { state := .draining, window := window30, inflight := n }).setEntry .down 0
    (Entry.allocated getPacket (some 5) 0)).onEngine fun e => { e with deferred := ds }

theorem witness_FreedEntryReleasesWindow :
    let d : Deferred := { port := .root, src := 3, tag := 1, op := .retire 5 }
    (up.entry .down 0).slot = none ∧ ((draining 2 []).entry .down 0).slot = some 5 ∧
    ((draining 2 []).slot 5).inflight ≠ 1 ∧
    (((draining 1 []).slot 5).state = .draining ∧ ((draining 1 []).slot 5).inflight = 1 ∧
      (draining 1 []).engine.deferred.find? (·.retires 5) = none) ∧
    ((draining 1 [d]).engine.deferred.find? (·.retires 5) = some d ∧ d.op = .retire 5) := by decide +kernel

theorem witness_ReturningDoneIsPushed :
    let b := entered .returning .sent up
    let c := entered .returning .cleared up
    running (stateOf b) ∧ (b.entry .down 0).state = .returning ∧ (b.entry .down 0).owed = some .failed ∧
    (b.hasRoom .root .reply = true ∧ ∀ e', (b.entry .down e').state = .returning → 0 ≤ e') ∧
    (c.entry .down 0).pos = .cleared ∧ (b.entry .down 0).replySeen = false ∧ (b.entry .down 0).pos ≠ .cleared ∧
    b.isDown .root = false ∧ (b.setLinkState .root .down).isDown .root = true ∧
    (b.setQueue .root .reply fullQueue).hasRoom .root .reply = false ∧
    (0 : Fin 64) < 1 := by decide +kernel

/-- A management reply for Root. -/
def replyFor (immediate : Bool) : MgmtReply :=
  { port := .root, pkt := replyPacket 9 3 1 0 .ok [], immediate := immediate }

/-- The Root queues of Reply and Stream full. -/
def rootFull (b : Bridge) : Bridge := (b.setQueue .root .reply fullQueue).setQueue .root .stream fullQueue

theorem witness_OwnPacketsAreAdmittedOrWait :
    (up.hasPlace .root .stream = true ∧ (rootFull up).hasPlace .root .stream = false) ∧
    (up.hasRoom (replyFor true).port .reply = true ∧ (∀ w ∈ up.engine.waiting, w.port ≠ (replyFor true).port)) ∧
    ((rootFull up).isDown (replyFor true).port = false ∧ (rootFull up).hasRoom (replyFor true).port .reply = false) ∧
    (rootFull (up.setLinkState .root .down)).isDown (replyFor true).port = true ∧
    (running (stateOf (lined .pending true false up)) ∧ ((lined .pending true false up).line 7).state = .pending ∧
      (∀ j, ((lined .pending true false up).line j).state = .pending → 7 ≤ j)) ∧
    (∀ j, (up.line j).state ≠ .pending) ∧
    ((up.onEngine fun e => { e with waiting := [replyFor true] }).engine.waiting = [] ++ replyFor true :: [] ∧
      (replyFor true).port = .root ∧
      ∃ w ∈ (up.onEngine fun e => { e with waiting := [replyFor true] }).engine.waiting, w.port = .root) := by
  decide +kernel

/-! What a port's loss reaches: both ports' queues full, and pushers waiting for them. -/

/-- All egress queues of a port full. -/
def fullEgress (p : Port) (b : Bridge) : Bridge :=
  ((b.setQueue p .stream fullQueue).setQueue p .query fullQueue).setQueue p .reply fullQueue

/-- Root in its last attempt with its queues full: behind the Leaf port a PUT, a GET and a DONE wait for it, and at
Root a GET whose answer is DENIED; line 7 is PENDING, line 0 would notify, and an immediate reply waits. -/
def rootLosing : Bridge :=
  let b := buffered .leaf putPacket (buffered .leaf getPacket (buffered .leaf (doneReply 0) (fullEgress .root deniedWindow)))
  let b := entered .waiting .sent (lined .pending true false (buffered .root getPacket b))
  let b := b.setLine 0 { Line.cold with enabled := true, masked := false }
  ((b.setLinkState .root .training).onRecord .root fun r => { r with attempts := 2, attemptStart := 3000 }).onEngine
    fun e => { e with waiting := [replyFor true] }

/-- Leaf in its last attempt with its queues full, closed to commands: a SET waits for Root, and behind it a MANAGE
whose answer is DENIED waits for Leaf. -/
def leafLosing : Bridge :=
  let b := buffered .leaf (managePacket 0 []) (buffered .leaf setPacket (fullEgress .leaf (fullEgress .root up)))
  ((b.setLinkState .leaf .training).onRecord .leaf fun r => { r with attempts := 2, attemptStart := 3000 }).onEngine
    fun e => { e with leafOpen := false }

/-- A packet waits for the queue of one class. -/
theorem waits {b : Bridge} {q p : Port} {k : Packet} (c : Cls)
    (h : b.isDown p = false ∧ Need.place p c ∈ needs b q k ∧ 32 ≤ (b.queue p c).length) : waitsFor b q k p :=
  ⟨h.1, c, h.2⟩

theorem witness_AttemptAndWakeBounds_pools :
    (running (stateOf rootLosing) ∧ rootLosing.linkState .root = .training ∧ (rootLosing.port .root).record.attempts = 2 ∧
      reached rootLosing.timeBase (after (rootLosing.port .root).record.attemptStart 2000) = true) ∧
    (PoolsByClass rootLosing ∧ RepliesAreDone rootLosing) ∧ PoolsByClass leafLosing ∧
    (rootLosing.pool .leaf .stream = putPacket :: [] ∧ waitsFor rootLosing .leaf putPacket .root) ∧
    (rootLosing.pool .leaf .query = getPacket :: [] ∧ waitsFor rootLosing .leaf getPacket .root) ∧
    (rootLosing.pool .leaf .reply = doneReply 0 :: [] ∧ waitsFor rootLosing .leaf (doneReply 0) .root ∧
      (doneReply 0).tag.toNat = (0 : Fin 64).val) ∧
    (rootLosing.pool .root .query = getPacket :: [] ∧ waitsFor rootLosing .root getPacket .root ∧
      needs rootLosing .root getPacket = [Need.place .root .reply]) ∧
    (leafLosing.pool .leaf .query = setPacket :: [managePacket 0 []] ∧ candidate? leafLosing .leaf = some 1 ∧
      waitsFor leafLosing .leaf (managePacket 0 []) .leaf) := by
  refine ⟨?_, ⟨?_, ?_⟩, ?_, ⟨?_, waits .stream ?_⟩, ⟨?_, waits .query ?_⟩, ⟨?_, waits .reply ?_, ?_⟩, ⟨?_, waits .reply ?_, ?_⟩,
    ?_, ?_, waits .reply ?_⟩
  case refine_2 => intro p c; cases p <;> cases c <;> decide +kernel
  case refine_3 => unfold RepliesAreDone; decide +kernel
  case refine_4 => intro p c; cases p <;> cases c <;> decide +kernel
  all_goals decide +kernel

/-- A closed Leaf in its last attempt: its head, a GET, waits for an entry of the full Upbound table alone, of which
entry 0 goes FREE in the event, and the candidate behind it for the full Leaf Reply queue. -/
def entryLosing : Bridge :=
  let b := buffered .leaf (managePacket 0 []) (buffered .leaf getPacket ((up.setLinkState .leaf .training).setQueue .leaf
    .reply fullQueue))
  let taken := { Entry.allocated getPacket none 21000 with pos := .sent }
  let b := b.forEntries fun e b => b.setEntry .up e
    (if e = 0 then { taken with state := .returning, owed := some .failed, replySeen := true } else taken)
  (b.onRecord .leaf fun r => { r with attempts := 2, attemptStart := 3000 }).onEngine fun e => { e with leafOpen := false }

theorem witness_AttemptAndWakeBounds_entry :
    PoolsByClass entryLosing ∧
    (entryLosing.pool .leaf .query = getPacket :: [managePacket 0 []] ∧ candidate? entryLosing .leaf = some 1 ∧
      waitsFor entryLosing .leaf (managePacket 0 []) .leaf) ∧
    needs entryLosing .leaf getPacket = [Need.place .root .query, Need.entry .up] ∧
    (∀ e, (entryLosing.entry .up e).state ≠ .free) ∧ (entryLosing.queue .root .query).length < 32 ∧
    afterRequesterLoss entryLosing (entryLosing.entry .up 0) = Entry.free := by
  refine ⟨?_, ⟨?_, ?_, waits .reply ?_⟩, ?_, ?_, ?_, ?_⟩
  case refine_1 => intro p c; cases p <;> cases c <;> decide +kernel
  all_goals decide +kernel

/-- The other premises on what the loss reaches, each at a state that meets it; a window named by one freed entry is
released once. -/
theorem witness_AttemptAndWakeBounds_reaches :
    ((rootLosing.line 7).state = .pending ∧ (rootLosing.line 8).state ≠ .pending) ∧
    ((rootLosing.line 0).state = .idle ∧ rootLosing.capture = [] ∧ (rootLosing.line 0).enabled = true ∧
      (rootLosing.line 0).masked = false ∧ (up.line 0).masked = true) ∧
    (∀ st ∈ [LineState.outstanding, .pending], ((up.setLine 0 { Line.cold with state := st }).line 0).state = st) ∧
    (replyFor true ∈ rootLosing.engine.waiting ∧ (replyFor true).port = .root) ∧
    ((draining 1 [{ port := .root, src := 3, tag := 1, op := .retire 5 }]).engine.deferred.filter (·.retires 5) =
      [{ port := .root, src := 3, tag := 1, op := .retire 5 }] ∧ ((draining 1 []).slot 5).state = .draining) ∧
    (released (draining 1 []) up 5 = 1 ∧ released up up 5 = 0) ∧
    (((entered .returning .sent up).entry .down 0).owed = some .failed) := by decide +kernel

/-- An early acknowledge of a SET from Root, with and without a LINK_PARK draining at Leaf, and at a DOWN Root. -/
theorem witness_TakeGetSetThroughWindow_both :
    let x := Push.plain .leaf putPacket
    let y := Push.plain .root (donePacket 9 3 7 .ok)
    (y.port = x.port.other ∧ up.isDown x.port = false ∧ up.isDown y.port = false ∧ noDrain up x.port ∧
      noDrain up y.port) ∧
    (up.setLinkState .root .down).isDown y.port = true ∧
    ((listed [parkListed 5000]).isDown .leaf = false ∧
      (listed [parkListed 5000]).engine.deferred.filter (·.parks .leaf) = [parkListed 5000] ∧
      (parkListed 5000).op = .park .leaf 5000) := by
  unfold noDrain; decide +kernel

/-- The oldest MANAGE for the bridge unit behind a head that cannot proceed is the candidate; a foreign MANAGE is not,
and where the head can proceed there is none. -/
theorem witness_TakeManageRoutes_candidate :
    let waiting := fun ks : List Packet => ks.foldl (fun b k => buffered .root k b) (up.setQueue .leaf .query fullQueue)
    let foreign := { managePacket 0 [] with dst := 20 }
    candidate? (waiting [getPacket, foreign, managePacket 8 [0], managePacket 0 []]) .root = some 2 ∧
    candidate? (waiting [foreign, managePacket 0 []]) .root = some 1 ∧ candidate? (waiting [getPacket]) .root = none ∧
    candidate? (buffered .root (managePacket 0 []) (buffered .root getPacket up)) .root = none ∧
    (∃ n ∈ needs (waiting [getPacket]) .root getPacket, n = Need.place .leaf .query ∧
      ¬((waiting [getPacket]).queue .leaf .query).length < 32) := by
  decide +kernel

/-- A candidate that a closed Leaf denies, and a malformed one. -/
theorem witness_TakeManageRoutes_bypass :
    let bad := { managePacket 0 [] with speculative := true }
    let behind := fun k : Packet => buffered .leaf k (buffered .leaf getPacket ((up.setQueue .root .query fullQueue).onEngine
      fun e => { e with leafOpen := false }))
    (candidate? (behind (managePacket 0 [])) .leaf = some 1 ∧
      ((behind (managePacket 0 [])).pool .leaf .query)[1]? = some (managePacket 0 []) ∧
      malformed .leaf (managePacket 0 []) = false ∧ (behind bad).engine.leafOpen = false ∧
      (behind (managePacket 0 [])).hasPlace .leaf .reply = true) ∧
    (candidate? (behind bad) .leaf = some 1 ∧ ((behind bad).pool .leaf .query)[1]? = some bad ∧ malformed .leaf bad = true) := by
  decide +kernel

/-- Heads of each kind in the pool of their class, and a candidate. -/
theorem witness_ArbiterSendsHead_rows :
    (∀ k ∈ [putPacket, getPacket, setPacket, managePacket 0 []], malformed .root k = false ∧
      (buffered .root k up).pool .root k.cls = k :: []) ∧
    (malformed .leaf (signalPacket true) = false ∧
      (buffered .leaf (signalPacket true) up).pool .leaf .stream = signalPacket true :: []) ∧
    (∀ k ∈ [dataPacket true 0, doneReply 0], malformed .leaf k = false ∧ (buffered .leaf k up).pool .leaf .reply = k :: []) ∧
    malformed .root { putPacket with blocks := 2 } = true ∧ candidate? leafLosing .leaf = some 1 := by decide +kernel

/-! Management heads: each a command from Root with its operand bytes, on a running part with a free engine. -/

/-- The head `commanded` puts in the queue. -/
def headOf (code : BitVec 6) (ops : List Byte) : Command := commandOf .root (managePacket (code.zeroExtend 8) ops)

/-- A part whose engine is free executes that head. -/
theorem ready (code : BitVec 6) (ops : List Byte) (req : Nat) (b : Bridge)
    (h : b.rstLow = false ∧ b.engine.free = true ∧ (headOf code ops).code = code ∧
      (headOf code ops).countOutOfRange = false ∧ req ≤ (headOf code ops).count) :
    HeadReady (stateOf (commanded code ops b)) code req (headOf code ops) :=
  ⟨h.1, rfl, h.2.1, h.2.2.1, h.2.2.2.1, h.2.2.2.2, fun k => nomatch k.2⟩

theorem witness_ReadCommandsReport :
    (HeadReady (stateOf (commanded 0 [] up)) 0 0 (headOf 0 []) ∧ HeadReady (stateOf (commanded 34 [] up)) 34 0 (headOf 34 [])) ∧
    (HeadReady (stateOf (commanded 8 [1] up)) 8 1 (headOf 8 [1]) ∧ (headOf 8 [1]).num 0 = (Port.code .leaf).toNat) ∧
    (HeadReady (stateOf (commanded 8 [2] up)) 8 1 (headOf 8 [2]) ∧ 2 ≤ (headOf 8 [2]).num 0) ∧
    (HeadReady (stateOf (commanded 13 [0, 15] up)) 13 2 (headOf 13 [0, 15]) ∧
      (headOf 13 [0, 15]).num 0 = (Port.code .root).toNat ∧ (headOf 13 [0, 15]).num 1 = (15 : Fin 16).val) ∧
    (HeadReady (stateOf (commanded 13 [0, 16] up)) 13 2 (headOf 13 [0, 16]) ∧ 16 ≤ (headOf 13 [0, 16]).num 1) ∧
    (HeadReady (stateOf (commanded 28 [31] up)) 28 1 (headOf 28 [31]) ∧ (headOf 28 [31]).num 0 = (31 : Fin 32).val) ∧
    (HeadReady (stateOf (commanded 28 [32] up)) 28 1 (headOf 28 [32]) ∧ 32 ≤ (headOf 28 [32]).num 0) ∧
    (HeadReady (stateOf (commanded 30 [7] up)) 30 1 (headOf 30 [7]) ∧ (headOf 30 [7]).num 0 = (7 : Fin 8).val) ∧
    (HeadReady (stateOf (commanded 30 [8] up)) 30 1 (headOf 30 [8]) ∧ 8 ≤ (headOf 30 [8]).num 0) ∧
    (HeadReady (stateOf (commanded 33 [1, 63] up)) 33 2 (headOf 33 [1, 63]) ∧
      (headOf 33 [1, 63]).num 0 = (if Dir.up = .down then 0 else 1) ∧ (headOf 33 [1, 63]).num 1 = (63 : Fin 64).val) ∧
    (HeadReady (stateOf (commanded 33 [2, 64] up)) 33 2 (headOf 33 [2, 64]) ∧ 2 ≤ (headOf 33 [2, 64]).num 0 ∧
      64 ≤ (headOf 33 [2, 64]).num 1) ∧
    (HeadReady (stateOf (commanded 43 [63] up)) 43 1 (headOf 43 [63]) ∧ (headOf 43 [63]).num 0 = (63 : Fin 64).val) ∧
    (HeadReady (stateOf (commanded 43 [64] up)) 43 1 (headOf 43 [64]) ∧ 64 ≤ (headOf 43 [64]).num 0) := by
  refine ⟨⟨?_, ?_⟩, ⟨?_, ?_⟩, ⟨?_, ?_⟩, ⟨?_, ?_, ?_⟩, ⟨?_, ?_⟩, ⟨?_, ?_⟩, ⟨?_, ?_⟩, ⟨?_, ?_⟩, ⟨?_, ?_⟩, ⟨?_, ?_, ?_⟩,
    ⟨?_, ?_, ?_⟩, ⟨?_, ?_⟩, ⟨?_, ?_⟩⟩
  all_goals first | exact ready _ _ _ _ (by decide) | decide

/-- Slot 5 in a state with a number of references. -/
def slotted (st : SlotState) (n : Nat) : Bridge := up.setSlot 5 { state := st, window := window30, inflight := n }

/-- Twenty-four operand bytes of WINDOW_LOAD of slot 5. -/
def loadOps : List Byte := [5, 0, 0x26, 0, 30, 0, 0, 0, 0x40, 0, 0, 0, 0, 8, 0, 0, 0, 0, 0, 0, 0, 0, 0, 0]

theorem witness_WindowCommandsByState :
    (HeadReady (stateOf (commanded 24 loadOps up)) 24 24 (headOf 24 loadOps) ∧
      (headOf 24 loadOps).num 0 % 32 = (5 : Fin 32).val ∧ (up.slot 5).state = .free) ∧
    (HeadReady (stateOf (commanded 25 [5] (slotted .staged 0))) 25 1 (headOf 25 [5]) ∧
      (headOf 25 [5]).num 0 = (5 : Fin 32).val ∧ ((slotted .staged 0).slot 5).state = .staged ∧
      window30.activates = true ∧ { window30 with sizeExp := 11 }.activates = false) ∧
    (HeadReady (stateOf (commanded 26 [5] (slotted .live 0))) 26 1 (headOf 26 [5]) ∧
      ((slotted .live 0).slot 5).state = .live ∧ ((slotted .live 0).slot 5).inflight = 0 ∧
      0 < ((slotted .live 1).slot 5).inflight ∧ up.engine.deferred.length < 4 ∧
      4 ≤ (listed [parkListed 0, parkListed 0, parkListed 0, parkListed 0]).engine.deferred.length ∧
      ((slotted .draining 1).slot 5).state ≠ .live) ∧
    (HeadReady (stateOf (commanded 27 [5] (slotted .staged 0))) 27 1 (headOf 27 [5]) ∧
      ((slotted .live 0).slot 5).state ≠ .staged) ∧
    (HeadReady (stateOf (commanded 26 [32] up)) 26 1 (headOf 26 [32]) ∧ 32 ≤ (headOf 26 [32]).num 0) := by
  refine ⟨⟨?_, ?_, ?_⟩, ⟨?_, ?_, ?_, ?_, ?_⟩, ⟨?_, ?_, ?_, ?_, ?_, ?_, ?_⟩, ⟨?_, ?_⟩, ⟨?_, ?_⟩⟩
  all_goals first | exact ready _ _ _ _ (by decide) | decide

theorem witness_GroupAndMissSettings :
    (HeadReady (stateOf (commanded 29 [7, 0, 0, 0, 0] up)) 29 5 (headOf 29 [7, 0, 0, 0, 0]) ∧
      (headOf 29 [7, 0, 0, 0, 0]).num 0 = (7 : Fin 8).val) ∧
    (HeadReady (stateOf (commanded 29 [8, 0, 0, 0, 0] up)) 29 5 (headOf 29 [8, 0, 0, 0, 0]) ∧
      8 ≤ (headOf 29 [8, 0, 0, 0, 0]).num 0) ∧
    (HeadReady (stateOf (commanded 31 [0, 3] up)) 31 2 (headOf 31 [0, 3]) ∧ (headOf 31 [0, 3]).num 0 ≤ 3 ∧
      (headOf 31 [0, 3]).num 1 ≤ 3) ∧
    (HeadReady (stateOf (commanded 31 [0, 4] up)) 31 2 (headOf 31 [0, 4]) ∧ 4 ≤ (headOf 31 [0, 4]).num 1) := by
  refine ⟨⟨?_, ?_⟩, ⟨?_, ?_⟩, ⟨?_, ?_, ?_⟩, ⟨?_, ?_⟩⟩
  all_goals first | exact ready _ _ _ _ (by decide) | decide

theorem witness_TimerAndAccessSet :
    (HeadReady (stateOf (commanded 32 [0x0F, 0xA0, 0, 0] up)) 32 4 (headOf 32 [0x0F, 0xA0, 0, 0]) ∧
      (headOf 32 [0x0F, 0xA0, 0, 0]).num16 0 ≤ 4000 ∧ (headOf 32 [0x0F, 0xA0, 0, 0]).num16 2 ≤ 4000) ∧
    (HeadReady (stateOf (commanded 32 [0x0F, 0xA1, 0, 0] up)) 32 4 (headOf 32 [0x0F, 0xA1, 0, 0]) ∧
      4000 < (headOf 32 [0x0F, 0xA1, 0, 0]).num16 0) ∧
    (HeadReady (stateOf (commanded 1 [2, 0] up)) 1 2 (headOf 1 [2, 0]) ∧ (headOf 1 [2, 0]).num 0 ≤ 2 ∧
      (headOf 1 [2, 0]).num 1 ≤ 2) ∧
    (HeadReady (stateOf (commanded 1 [0, 3] up)) 1 2 (headOf 1 [0, 3]) ∧ 3 ≤ (headOf 1 [0, 3]).num 1) := by
  refine ⟨⟨?_, ?_, ?_⟩, ⟨?_, ?_⟩, ⟨?_, ?_, ?_⟩, ⟨?_, ?_⟩⟩
  all_goals first | exact ready _ _ _ _ (by decide) | decide

theorem witness_PortSettingCommands :
    let c := headOf 9 [2, 0, 3, 0xF8, 5]
    let d := headOf 9 [2, 0, 3, 8, 5]
    (HeadReady (stateOf (commanded 9 [2, 0, 3, 0xF8, 5] up)) 9 5 c ∧ c.num 0 ≤ 3 ∧
      (c.num 1 = 0 ∧ c.num 2 ≤ 3 ∧ -8 ≤ (c.byte 3).toInt ∧ (c.byte 3).toInt ≤ 7 ∧ 5 ≤ c.num 4)) ∧
    (HeadReady (stateOf (commanded 9 [2, 0, 3, 8, 5] up)) 9 5 d ∧ d.num 0 ≠ 3 ∧ d.byte 3 ≠ 0x80 ∧
      ¬(-8 ≤ (d.byte 3).toInt ∧ (d.byte 3).toInt ≤ 7)) ∧
    (HeadReady (stateOf (commanded 16 [1, 2, 4, 8, 8, 38, 84] up)) 16 7 (headOf 16 [1, 2, 4, 8, 8, 38, 84]) ∧
      validPlan (headOf 16 [1, 2, 4, 8, 8, 38, 84]).plan = true ∧
      validPlan (headOf 16 [1, 1, 4, 9, 8, 38, 84]).plan = false ∧ (headOf 16 [1, 1, 4, 9, 8, 38, 84]).num 0 ≠ 3) ∧
    (HeadReady (stateOf (commanded 17 [3, 255, 15, 0] up)) 17 4 (headOf 17 [3, 255, 15, 0]) ∧
      (headOf 17 [3, 255, 15, 0]).num 0 ≤ 3 ∧ (headOf 17 [3, 255, 15, 0]).num 1 = 255 ∧
      (headOf 17 [3, 255, 15, 0]).num 2 ≤ 15 ∧ (headOf 17 [3, 255, 15, 0]).num 3 ≤ 15) ∧
    (HeadReady (stateOf (commanded 17 [4, 16, 0, 0] up)) 17 4 (headOf 17 [4, 16, 0, 0]) ∧
      4 ≤ (headOf 17 [4, 16, 0, 0]).num 0 ∧
      ¬((headOf 17 [4, 16, 0, 0]).num 1 = 255 ∨ (headOf 17 [4, 16, 0, 0]).num 1 ≤ 15)) := by
  refine ⟨⟨?_, ?_, ?_⟩, ⟨?_, ?_, ?_, ?_⟩, ⟨?_, ?_, ?_, ?_⟩, ⟨?_, ?_, ?_, ?_, ?_⟩, ⟨?_, ?_, ?_⟩⟩
  all_goals first | exact ready _ _ _ _ (by decide) | decide

theorem witness_LinkCommandsByState :
    (HeadReady (stateOf (commanded 10 [1] up)) 10 1 (headOf 10 [1]) ∧ (headOf 10 [1]).num 0 = (Port.code .leaf).toNat ∧
      up.engine.linkListed .leaf = false ∧ up.engine.deferred.length < 4 ∧ up.linkState .leaf = .active ∧
      (listed [parkListed 0]).engine.linkListed .leaf = true ∧
      (up.setLinkState .leaf .config).linkState .leaf = .config) ∧
    (HeadReady (stateOf (commanded 11 [1] up)) 11 1 (headOf 11 [1]) ∧ up.isActive .leaf = true ∧ up.drained .leaf = true ∧
      (up.port .leaf).send.replayPos = none ∧ replaying.drained .leaf = false ∧
      (up.setLinkState .leaf .parked).isActive .leaf = false) ∧
    (HeadReady (stateOf (commanded 12 [1] (up.setLinkState .leaf .parked))) 12 1 (headOf 12 [1]) ∧
      (up.setLinkState .leaf .parked).linkState .leaf = .parked ∧ up.linkState .leaf ≠ .parked) ∧
    (HeadReady (stateOf (commanded 12 [2] up)) 12 1 (headOf 12 [2]) ∧ 2 ≤ (headOf 12 [2]).num 0) := by
  refine ⟨⟨?_, ?_, ?_, ?_, ?_, ?_, ?_⟩, ⟨?_, ?_, ?_, ?_, ?_, ?_⟩, ⟨?_, ?_, ?_⟩, ⟨?_, ?_⟩⟩
  all_goals first | exact ready _ _ _ _ (by decide) | decide

/-- Operands of SIGNAL_CONFIG for line 7: enabled, target 0x7000. -/
def signalOps (target : Byte) : List Byte := [7, 1, 0, 0, 0, 0, 0x70, target, 1, 2, 3, 4]

theorem witness_SignalCommandsOnLine :
    let c := headOf 40 (signalOps 0)
    let raised := up.setLine 7 { Line.cold with masked := false, level := true }
    (HeadReady (stateOf (commanded 40 (signalOps 0) raised)) 40 12 c ∧ c.num 0 = (7 : Fin 64).val ∧
      (c.addr 2).toNat % 4 = 0 ∧ (c.byte 1).getLsbD 0 = true ∧ (raised.line 7).state = .idle ∧
      (raised.line 7).masked = false ∧ (raised.line 7).level = true) ∧
    ((headOf 40 (signalOps 2)).addr 2).toNat % 4 ≠ 0 ∧ (up.line 7).masked = true ∧
    (HeadReady (stateOf (commanded 41 [7, 0] up)) 41 2 (headOf 41 [7, 0]) ∧ (headOf 41 [7, 0]).num 1 = 0 ∧
      (headOf 41 [7, 1]).num 1 = 1 ∧ 2 ≤ (headOf 41 [7, 2]).num 1) ∧
    (HeadReady (stateOf (commanded 42 [7] (lined .outstanding true false up))) 42 1 (headOf 42 [7]) ∧
      ((lined .outstanding true false up).line 7).state = .outstanding ∧ (up.line 7).state ≠ .outstanding ∧
      ((lined .outstanding true false up).line 7).level = false) ∧
    (HeadReady (stateOf (commanded 42 [64] up)) 42 1 (headOf 42 [64]) ∧ 64 ≤ (headOf 42 [64]).num 0) := by
  refine ⟨⟨?_, ?_, ?_, ?_, ?_, ?_, ?_⟩, ?_, ?_, ⟨?_, ?_, ?_, ?_⟩, ⟨?_, ?_, ?_, ?_⟩, ⟨?_, ?_⟩⟩
  all_goals first | exact ready _ _ _ _ (by decide) | decide

theorem witness_CaptureCommands :
    let r := bareRecord .checkFail .root 0
    HeadReady (stateOf (commanded 48 [] up)) 48 0 (headOf 48 []) ∧ HeadReady (stateOf (commanded 49 [] up)) 49 0 (headOf 49 []) ∧
    up.capture = [] ∧ ({ up with capture := [r] } : Bridge).capture = [r] ∧
    ({ up with capture := [r, r, r] } : Bridge).capture = r :: r :: [r] ∧
    ((up.line 0).state = .idle ∧ (up.line 0).masked = true) ∧
    (let b := up.setLine 0 { Line.cold with enabled := true, masked := false }
     b.capture = [] ∧ (b.line 0).state = .idle ∧ (b.line 0).enabled = true ∧ (b.line 0).masked = false) ∧
    ((raise r up).capture ≠ [] ∧ ((raise r up).line 0).level = true) := by
  refine ⟨?_, ?_, ?_, ?_, ?_, ?_, ?_, ?_⟩
  all_goals first | exact ready _ _ _ _ (by decide) | decide

/-- A command with a number of payload blocks that names an operand count. -/
def counted (blocks : Nat) (count : Byte) : Command :=
  { headOf 8 [] with blocks := blocks, payload := count :: zeros (64 * blocks - 1) }

theorem witness_EngineRefusesBeforeExecution :
    let s := stateOf (commanded 8 [] up)
    let unknown := headOf 2 []
    let fromLeaf := { headOf 1 [0, 0] with port := .leaf }
    let long : Command := { headOf 8 [] with blocks := 0 }
    (running s ∧ s.bridge.engine.queue.head? = some (headOf 8 []) ∧ s.bridge.engine.free = true) ∧
    unknown.code ∉ knownCodes ∧
    (fromLeaf.code = 1 ∧ fromLeaf.countOutOfRange = false ∧ fromLeaf.port = .leaf) ∧
    ((headOf 8 []).code = 8 ∧ (headOf 8 []).countOutOfRange = false ∧
      ¬((8 : BitVec 6) = 1 ∧ (headOf 8 []).port = .leaf) ∧ (headOf 8 []).count < 1) ∧
    long.countOutOfRange = true ∧
    (counted 4 252).countOutOfRange = false ∧ (counted 4 253).countOutOfRange = true ∧
    (counted 1 60).countOutOfRange = false ∧ (counted 1 61).countOutOfRange = true := by decide +kernel

theorem witness_PushEntersOrIsDiscarded :
    let x := Push.plain .leaf putPacket
    (up.isDown x.port = false ∧ noDrain up x.port ∧ up.linkState x.port ≠ .parked) ∧
    ((up.setLinkState .leaf .parked).linkState x.port = .parked ∧ x.wakes = true) ∧
    ((listed [parkListed 5000]).linkState x.port = .active ∧
      (listed [parkListed 5000]).engine.deferred.filter (·.parks x.port) = [parkListed 5000] ∧
      (parkListed 5000).op = .park x.port 5000 ∧ (listed [parkListed 5000]).isDown (parkListed 5000).port = false ∧
      noDrain (listed [parkListed 5000]) (parkListed 5000).port) ∧
    ((leafDown up).isDown x.port = true ∧ (leafDown up).capture.length < 16) := by
  unfold noDrain; decide +kernel

theorem witness_RaisedRecordEnters :
    up.capture.length < 16 ∧
    16 ≤ ({ up with capture := List.replicate 16 (bareRecord .checkFail .root 0) } : Bridge).capture.length := by decide

/-- A flit with a check value that is not its own. -/
theorem witness_FlitsReadBack :
    let r : RawFlit := { bytes := [0x60], check := #v[0, 0] }
    r.check ≠ #v[(crc16 r.bytes).extractLsb' 8 8, (crc16 r.bytes).extractLsb' 0 8] := by decide +kernel

/-- Bytes with their good check value. -/
def checked (bytes : List Byte) : RawFlit := { bytes := bytes, check := checkBytes16 (crc16 bytes) }

/-- Flit code 9, rate 0, width 5 and a byte too many are discarded; set zero bits are not examined. -/
theorem witness_FlitsReadBack_fields :
    9 ≤ (0x90 : Byte).toNat / 16 ∧
    (∀ bytes ∈ [[0x90], [0xFF], [0x10, 0x80], [0x20, 5, 1, 0, 0, 0, 0, 0, 0], [0x20, 4, 4, 0, 0, 0, 0, 0, 0], [0x60, 0], []],
      readFlit (checked bytes) = none) ∧
    readFlit (checked [0x1F, 0xFD]) = some (.train true .r3_2) ∧
    readFlit (checked [0x2F, 0xE8, 0x7E, 1, 2, 3, 4, 5, 6]) = some (.config ⟨.w8, false, .r6_4, ⟨⟨1, 2⟩, ⟨3, 4⟩, ⟨5, 6⟩⟩⟩) ∧
    readFlit (checked [0x3A, 0xFA, 0xBC]) = some (.ack 0xABC) := by decide +kernel

theorem witness_PacketsReadBack :
    setPacket.info &&& setPacket.kind.infoMask = setPacket.info ∧ setPacket.payload.length = 64 * setPacket.blocks.toNat ∧
    (dataPacket true 3).info &&& (dataPacket true 3).kind.infoMask = (dataPacket true 3).info ∧
    (dataPacket true 3).payload.length = 64 * (dataPacket true 3).blocks.toNat := by decide +kernel

/-- A running part that meets an invariant steps on: here the capture queue holds a record. -/
theorem witness_StepKeepsCapture :
    let b := up.enterRecord (bareRecord .checkFail .root 0)
    CaptureInv b ∧ ∃ t, step (stateOf b) = .next t :=
  ⟨⟨by decide, by decide, by decide⟩, _, rfl⟩

theorem witness_StepKeepsQueues : QueueInv (rootFull up) ∧ ∃ t, step (stateOf (rootFull up)) = .next t :=
  ⟨fun p c => by cases p <;> cases c <;> decide, _, rfl⟩

theorem witness_StepKeepsReplay : ReplayInv replaying ∧ ∃ t, step (stateOf replaying) = .next t := by
  refine ⟨fun p => ⟨⟨?_, ?_, ?_⟩, ?_⟩, _, rfl⟩
  · cases p <;> decide +kernel
  · cases p
    all_goals
      intro i h
      have h2 : i < 2 := h
      have hi : i = 0 ∨ i = 1 := by omega
      rcases hi with rfl | rfl <;> exact ⟨rfl, rfl⟩
  · cases p <;> exact nofun
  · cases p <;> exact fun _ => rfl

theorem witness_StepKeepsEngine :
    let b := (listed [parkListed 0, parkListed 0, parkListed 0, parkListed 0]).onEngine
      fun e => { e with waiting := [replyFor true] }
    EngineInv b ∧ ∃ t, step (stateOf b) = .next t :=
  ⟨⟨by decide, by decide, by decide, by unfold RepliesAreDone; decide⟩, _, rfl⟩

/-- A port whose accounts sum to the default plan. -/
def balancedPort : PortState :=
  { activePort with
    ingress := { activePort.ingress with
      account := defaultPlan.map fun n => { RxAccount.zero with outstanding := ⟨n.headers, n.blocks⟩ } } }

theorem witness_StepKeepsCredit :
    let b := buffered .root putPacket { up with ports := { root := balancedPort, leaf := balancedPort } }
    CreditInv b ∧ ∃ t, step (stateOf b) = .next t := by
  refine ⟨⟨fun p c => ?_, fun p c => ⟨?_, fun _ => ⟨?_, ?_⟩⟩⟩, _, rfl⟩
  all_goals cases p <;> cases c <;> decide

theorem witness_StepKeepsReferences :
    ReferenceInv (draining 1 []) ∧ ∃ t, step (stateOf (draining 1 [])) = .next t := by
  refine ⟨⟨fun d => ?_, ?_⟩, _, rfl⟩
  · cases d <;> decide +kernel
  · decide +kernel

end Sys2Proof.Tests
end

section
/-! Packets on the lanes (O53): the bytes of a framed packet, its check value, and reading them back. The layer facts
come first, in the order of the definitions of Machine/Wire.lean: codes, packet fields, header, check value, frame. -/

namespace Sys2Proof.PacketWire

open Sys2Proof.Machine

/-! ### Codes and packet fields -/

@[simp] theorem kind_ofCode_code (k : Kind) : Kind.ofCode k.code = k := by cases k <;> rfl

theorem packet_final_iff (k : Packet) :
    k.final = true ↔ k.kind = .done ∨ (k.kind = .data ∧ k.info.getLsbD 7 = true) := by
  unfold Packet.final Packet.topInfo
  cases k.kind <;> simp [BitVec.msb_eq_getLsbD_last]

/-- The fields that byte 11 carries are its bits (01 Table 1-3). -/
theorem packet_infoFields (k : Packet) :
    k.line.val = k.info.toNat % 64 ∧ k.topInfo = k.info.getLsbD 7 ∧ k.command.toNat = k.info.toNat % 64 ∧
      k.part.val = k.info.toNat % 4 ∧ k.status.toNat = k.info.toNat % 16 :=
  ⟨rfl, BitVec.msb_eq_getLsbD_last _, BitVec.toNat_setWidth _ _, rfl, BitVec.toNat_setWidth _ _⟩

/-! ### The header -/

theorem addrOf_extract (a : Addr) :
    addrOf (a.extractLsb' 40 8) (a.extractLsb' 32 8) (a.extractLsb' 24 8) (a.extractLsb' 16 8) (a.extractLsb' 8 8)
      (a.extractLsb' 0 8) = a := by
  unfold addrOf
  repeat rw [BitVec.extractLsb'_append_extractLsb'_eq_extractLsb' (by rfl)]
  exact BitVec.extractLsb'_eq_self

/-- The fields of byte 0, each read at its own place (01 Table 1-3). -/
theorem byte0_fields (k : Packet) :
    k.byte0.extractLsb' 5 3 = k.kind.code ∧ k.byte0.getLsbD 4 = k.ordered ∧ k.byte0.getLsbD 3 = k.speculative ∧
      k.byte0.extractLsb' 0 3 = k.blocks := by
  have general : ∀ (c b : BitVec 3) (o s : Bool),
      let x : Byte := c ++ BitVec.ofBool o ++ BitVec.ofBool s ++ b
      x.extractLsb' 5 3 = c ∧ x.getLsbD 4 = o ∧ x.getLsbD 3 = s ∧ x.extractLsb' 0 3 = b := by decide
  exact general _ _ _ _

/-- Byte 0 as a number: each field weighs its lowest bit (01 Table 1-3). -/
theorem byte0_toNat (k : Packet) :
    k.byte0.toNat = 32 * k.kind.code.toNat + 16 * k.ordered.toNat + 8 * k.speculative.toNat + k.blocks.toNat := by
  have general : ∀ (c b : BitVec 3) (o s : Bool), (c ++ BitVec.ofBool o ++ BitVec.ofBool s ++ b : Byte).toNat =
      32 * c.toNat + 16 * o.toNat + 8 * s.toNat + b.toNat := by decide
  exact general _ _ _ _

/-- The 12 bytes of 01 Table 1-3 with the fields as numbers, as a reader of the table writes them. -/
theorem headerBytes_eq (k : Packet) : k.headerBytes =
    [BitVec.ofNat 8 (32 * k.kind.code.toNat + 16 * k.ordered.toNat + 8 * k.speculative.toNat + k.blocks.toNat),
      BitVec.ofNat 8 k.src.toNat, BitVec.ofNat 8 k.dst.toNat, k.tag, k.addr.extractLsb' 40 8, k.addr.extractLsb' 32 8,
      k.addr.extractLsb' 24 8, k.addr.extractLsb' 16 8, k.addr.extractLsb' 8 8, k.addr.extractLsb' 0 8, k.len,
      k.info] := by
  simp only [← byte0_toNat, BitVec.ofNat_toNat, BitVec.setWidth_eq]
  rfl

@[simp] theorem headerVec_toList (k : Packet) : k.headerVec.toList = k.headerBytes := rfl

/-- Reading a header back loses only the bits of byte 11 that its kind leaves unused (01 R5, log 20). -/
theorem ofWire_headerVec (k : Packet) :
    Packet.ofWire k.headerVec k.payload = { k with info := k.info &&& k.kind.infoMask } := by
  obtain ⟨hkind, hordered, hspec, hblocks⟩ := byte0_fields k
  have h0 : k.headerVec[0] = k.byte0 := rfl
  have hunit : ∀ u : UnitNo, (u.zeroExtend 8).truncate 5 = u := by decide
  have hsrc : k.headerVec[1].truncate 5 = k.src := hunit k.src
  have hdst : k.headerVec[2].truncate 5 = k.dst := hunit k.dst
  have haddr : addrOf k.headerVec[4] k.headerVec[5] k.headerVec[6] k.headerVec[7] k.headerVec[8] k.headerVec[9] =
      k.addr := addrOf_extract k.addr
  unfold Packet.ofWire
  rw [h0, hkind, hordered, hspec, hblocks, hsrc, hdst, haddr, kind_ofCode_code]
  rfl

/-! ### Check values -/

/-- The high byte of the padded sequence number holds its top four bits (07 R115). -/
theorem seqBytes_eq (n : Seq) : seqBytes n = [BitVec.ofNat 8 (n.toNat / 256), BitVec.ofNat 8 (n.toNat % 256)] := by
  have hhi : ((n.extractLsb' 8 4).zeroExtend 8 : Byte) = BitVec.ofNat 8 (n.toNat / 256) := by
    apply BitVec.eq_of_toNat_eq
    simp [Nat.shiftRight_eq_div_pow]
    omega
  have hlo : (n.extractLsb' 0 8 : Byte) = BitVec.ofNat 8 (n.toNat % 256) := by
    apply BitVec.eq_of_toNat_eq
    simp
  rw [seqBytes, hhi, hlo]

theorem crcBytes_append_singleton {w : Nat} (poly : BitVec w) (bytes : List Byte) (x : Byte) :
    crcBytes poly (bytes ++ [x]) = crcByte poly (crcBytes poly bytes) x := by
  simp [crcBytes]

theorem crc32_nil : crc32 [] = 0 := by decide

theorem crcBit_eq {w : Nat} (poly c : BitVec w) (bit : Bool) :
    crcBit poly c bit = if c.msb = bit then c <<< 1 else (c <<< 1) ^^^ poly := by
  unfold crcBit
  by_cases h : c.msb = bit <;> simp [h]

/-- The recurrence of 07 R115: the kept value is the inverted register. -/
theorem crc32_append_singleton (bytes : List Byte) (x : Byte) : crc32 (bytes ++ [x]) =
    ~~~([7, 6, 5, 4, 3, 2, 1, 0].foldl
      (fun (c : BitVec 32) (i : Nat) => if c.msb = x.getLsbD i then c <<< 1 else (c <<< 1) ^^^ 0x741B8CD7)
      (~~~(crc32 bytes))) := by
  simp only [crc32, crcBytes_append_singleton, crcByte, crcBit_eq, BitVec.not_not]

/-! ### Frames -/

theorem goodFrame_iff (f : RxFrame) : goodFrame f = true ↔ f.payload.length = 64 * (f.header[0].toNat % 8) ∧
    f.check = checkBytes32 (crc32 (seqBytes f.seq ++ f.header.toList ++ f.payload)) := by
  simp [goodFrame, RxFrame.sized]

theorem goodFrame_sealFrame (n : Seq) (k : Packet) (hlen : k.payload.length = 64 * k.blocks.toNat) :
    goodFrame (sealFrame n k) = true := by
  have hblocks : k.byte0.toNat % 8 = k.blocks.toNat := by
    have hlt := k.blocks.isLt
    rw [byte0_toNat]
    omega
  rw [goodFrame_iff]
  exact ⟨hlen.trans (congrArg (64 * ·) hblocks.symm), rfl⟩

theorem framePacket_sealFrame (n : Seq) (k : Packet) (hinfo : k.info &&& k.kind.infoMask = k.info) :
    framePacket (sealFrame n k) = k := by
  calc framePacket (sealFrame n k) = { k with info := k.info &&& k.kind.infoMask } := ofWire_headerVec k
    _ = k := by rw [hinfo]

/-- Settles O53: each clause is one of the layer's facts above. -/
theorem packetsReadBack : Obligations.PacketsReadBack := by
  unfold Obligations.PacketsReadBack
  intro num kind header number check
  have hkind (k : Kind) : kind k = k.code.toNat := by cases k <;> rfl
  have hheader (k : Packet) : k.headerBytes = header k := by simp only [headerBytes_eq, header, hkind, num]
  have hnumber (n : Seq) : seqBytes n = number n := seqBytes_eq n
  refine ⟨fun n k => ?_, ⟨crc32_nil, crc32_append_singleton⟩, fun f => ?_, fun k => ?_, fun n k hinfo hlen =>
    ⟨goodFrame_sealFrame n k hlen, framePacket_sealFrame n k hinfo⟩⟩
  · rw [← hheader, ← hnumber]
    exact ⟨rfl, rfl, rfl, rfl, rfl⟩
  · rw [← hnumber]
    exact goodFrame_iff f
  · obtain ⟨hline, htop, hcommand, hpart, hstatus⟩ := packet_infoFields k
    refine ⟨?_, ?_, hline, htop, hcommand, hpart, hstatus, packet_final_iff k⟩
    · unfold Packet.cls
      cases k.kind <;> rfl
    · cases k.kind <;> rfl

end Sys2Proof.PacketWire
end

section
/-! References to windows (O59): each window's in-flight count is the number of Query entries that name it, and every
step keeps it so. The layer comes first: how one entry or one slot written changes the count, then what each operation
keeps, in the order of the model's files. -/

namespace Sys2Proof.WindowReferences

open Sys2Proof.Machine Sys2Proof.Safety Sys2Proof.Laws

/-! ### The number of entries that name a slot -/

/-- The entry is not FREE and names the slot (02 R32). -/
def names (x : Entry) (i : Fin 32) : Bool := x.state != .free && x.slot == some i

/-- The number of entries of both tables that name a slot (02 R32). -/
def namingTotal (b : Bridge) (i : Fin 32) : Nat := naming b .down i + naming b .up i

/-- A slot whose in-flight count is `n`, where its state allows that count (02 R32, R22). -/
def SlotSound (x : Slot) (n : Nat) : Prop :=
  x.inflight = n ∧ (x.state = .free ∨ x.state = .staged → x.inflight = 0) ∧
    (x.state = .draining → 0 < x.inflight)

/-- Every FREE entry holds nothing (04 R62). -/
def FreeHoldNothing (b : Bridge) : Prop := ∀ d e, (b.entry d e).state = .free → b.entry d e = Entry.free

theorem naming_eq (b : Bridge) (d : Dir) (i : Fin 32) :
    naming b d i = (List.finRange 64).countP fun e => names (b.entry d e) i := rfl

theorem referenceInv_iff {b : Bridge} :
    ReferenceInv b ↔ FreeHoldNothing b ∧ ∀ i, SlotSound (b.slot i) (namingTotal b i) := Iff.rfl

/-- Two tests that differ at one member of a list alone count the others alike. -/
theorem countP_add_of_eq_off {α : Type} [DecidableEq α] {l : List α} {a : α} (p q : α → Bool) (hl : l.Nodup)
    (ha : a ∈ l) (h : ∀ x, x ≠ a → p x = q x) : l.countP p + (q a).toNat = l.countP q + (p a).toNat := by
  have hp := List.perm_cons_erase ha
  have hrest : (l.erase a).countP p = (l.erase a).countP q :=
    List.countP_congr fun x hx => by rw [h x (hl.mem_erase_iff.mp hx).1]
  rw [hp.countP_eq p, hp.countP_eq q, List.countP_cons, List.countP_cons, hrest]
  cases p a <;> cases q a <;> simp

theorem naming_setEntry_self (b : Bridge) (d : Dir) (e : Fin 64) (x : Entry) (i : Fin 32) :
    naming (b.setEntry d e x) d i + (names (b.entry d e) i).toNat = naming b d i + (names x i).toNat := by
  have h := countP_add_of_eq_off (fun e' => names ((b.setEntry d e x).entry d e') i) (fun e' => names (b.entry d e') i)
    (List.nodup_finRange 64) (List.mem_finRange e) fun e' he => by rw [entry_setEntry_other b x (by simp [he])]
  rwa [entry_setEntry_self] at h

theorem naming_setEntry_other (b : Bridge) {d d' : Dir} (e : Fin 64) (x : Entry) (i : Fin 32) (h : d' ≠ d) :
    naming (b.setEntry d e x) d' i = naming b d' i := by
  simp only [naming_eq, entry_setEntry_other b x fun k => h k.1]

/-- One entry written: the old entry's reference goes, the new one's comes. -/
theorem namingTotal_setEntry (b : Bridge) (d : Dir) (e : Fin 64) (x : Entry) (i : Fin 32) :
    namingTotal (b.setEntry d e x) i + (names (b.entry d e) i).toNat = namingTotal b i + (names x i).toNat := by
  have hself := naming_setEntry_self b d e x i
  unfold namingTotal
  cases d with
  | down => have hother := naming_setEntry_other b (d := .down) (d' := .up) e x i (by decide); omega
  | up => have hother := naming_setEntry_other b (d := .up) (d' := .down) e x i (by decide); omega

theorem inflight_eq_namingTotal {b : Bridge} (h : ReferenceInv b) (i : Fin 32) :
    (b.slot i).inflight = namingTotal b i := (h.2 i).1

theorem namingTotal_setSlot (b : Bridge) (j : Fin 32) (y : Slot) (i : Fin 32) :
    namingTotal (b.setSlot j y) i = namingTotal b i := rfl

theorem slotSound_free : SlotSound Slot.free 0 := ⟨rfl, fun _ => rfl, nofun⟩

/-! ### Writing one slot or one entry -/

theorem names_free (i : Fin 32) : names Entry.free i = false := rfl

theorem names_of_ne_free {x : Entry} (hx : x.state ≠ .free) (i : Fin 32) : names x i = (x.slot == some i) := by
  simp [names, hx]

/-- Since a FREE entry holds nothing, an entry names exactly the slot it records. -/
theorem names_entry {b : Bridge} (h : FreeHoldNothing b) (d : Dir) (e : Fin 64) (i : Fin 32) :
    names (b.entry d e) i = ((b.entry d e).slot == some i) := by
  by_cases hf : (b.entry d e).state = .free
  · rw [h d e hf]; rfl
  · exact names_of_ne_free hf i

theorem freeHoldNothing_setEntry {b : Bridge} (h : FreeHoldNothing b) (d : Dir) (e : Fin 64) {x : Entry}
    (hx : x.state = .free → x = Entry.free) : FreeHoldNothing (b.setEntry d e x) := by
  intro d' e'
  by_cases hw : d' = d ∧ e' = e
  · obtain ⟨rfl, rfl⟩ := hw
    rwa [entry_setEntry_self]
  · rw [entry_setEntry_other b x hw]
    exact h d' e'

theorem namingTotal_setEntry_of_names {b : Bridge} {d : Dir} {e : Fin 64} {x : Entry} {i : Fin 32}
    (h : names x i = names (b.entry d e) i) : namingTotal (b.setEntry d e x) i = namingTotal b i := by
  have hcount := namingTotal_setEntry b d e x i
  rw [h] at hcount
  omega

/-- One slot written: it has to be sound, and so do the others. -/
theorem referenceInv_setSlot {b : Bridge} {i : Fin 32} {y : Slot} (hfree : FreeHoldNothing b)
    (hothers : ∀ j, j ≠ i → SlotSound (b.slot j) (namingTotal b j)) (hi : SlotSound y (namingTotal b i)) :
    ReferenceInv (b.setSlot i y) := by
  refine referenceInv_iff.mpr ⟨hfree, fun j => ?_⟩
  rw [namingTotal_setSlot]
  by_cases hj : j = i
  · subst hj
    rwa [slot_setSlot_self]
  · rw [slot_setSlot_other b y hj]
    exact hothers j hj

theorem setSlot_sound {b : Bridge} (h : ReferenceInv b) {i : Fin 32} {y : Slot} (hi : SlotSound y (namingTotal b i)) :
    ReferenceInv (b.setSlot i y) :=
  referenceInv_setSlot h.1 (fun j _ => h.2 j) hi

/-- An entry written, with no change of the slots it names. -/
theorem setEntry_names {b : Bridge} (h : ReferenceInv b) {d : Dir} {e : Fin 64} {x : Entry}
    (hx : x.state = .free → x = Entry.free) (hn : ∀ i, names x i = names (b.entry d e) i) :
    ReferenceInv (b.setEntry d e x) := by
  refine referenceInv_iff.mpr ⟨freeHoldNothing_setEntry h.1 d e hx, fun i => ?_⟩
  rw [namingTotal_setEntry_of_names (hn i)]
  exact h.2 i

/-- An entry in use, written over the entry before with the same window slot. -/
theorem setEntry_sameSlot {b : Bridge} (h : ReferenceInv b) {d : Dir} {e : Fin 64} {x : Entry} (hx : x.state ≠ .free)
    (hs : x.slot = (b.entry d e).slot) : ReferenceInv (b.setEntry d e x) := by
  refine setEntry_names h (fun hf => absurd hf hx) fun i => ?_
  rw [names_of_ne_free hx, names_entry h.1, hs]

/-- An entry and one slot written in one event: the other slots are named as before, and the slot has its count. -/
theorem setEntry_setSlot {b : Bridge} (h : ReferenceInv b) {d : Dir} {e : Fin 64} {x : Entry} {i : Fin 32} {y : Slot}
    (hx : x.state = .free → x = Entry.free) (hn : ∀ j, j ≠ i → names x j = names (b.entry d e) j)
    (hi : SlotSound y (namingTotal (b.setEntry d e x) i)) : ReferenceInv ((b.setEntry d e x).setSlot i y) := by
  refine referenceInv_setSlot (freeHoldNothing_setEntry h.1 d e hx) (fun j hj => ?_) hi
  rw [namingTotal_setEntry_of_names (hn j hj)]
  exact h.2 j

/-! ### What keeps the references -/

/-- The operation keeps every window's in-flight count true. -/
def KeepsReferences (f : Bridge → Bridge) : Prop := ∀ b, ReferenceInv b → ReferenceInv (f b)

/-- The invariant speaks of the slots and the tables alone. -/
theorem referenceInv_of_same {b b' : Bridge} (hs : b'.slots = b.slots) (ht : b'.tables = b.tables)
    (h : ReferenceInv b) : ReferenceInv b' := by
  simpa only [ReferenceInv, naming, Bridge.entry, Bridge.slot, hs, ht] using h

theorem referenceInv_of_pushKeeps {b b' : Bridge} (k : PushKeeps b b') (h : ReferenceInv b) : ReferenceInv b' :=
  referenceInv_of_same k.slots k.tables h

theorem onPort_keepsReferences (p : Port) (f : PortState → PortState) : KeepsReferences fun b => b.onPort p f :=
  fun _ h => referenceInv_of_same rfl rfl h

theorem KeepsReferences.foldl {α : Type} {f : Bridge → α → Bridge} (hf : ∀ a, KeepsReferences fun b => f b a)
    (l : List α) : KeepsReferences fun b => l.foldl f b := by
  induction l with
  | nil => exact fun _ h => h
  | cons a l ih => exact fun b h => ih (f b a) (hf a b h)

theorem forEntries_keepsReferences {f : Fin 64 → Bridge → Bridge} (hf : ∀ e, KeepsReferences (f e)) :
    KeepsReferences fun b => b.forEntries f := KeepsReferences.foldl hf _

theorem forLines_keepsReferences {f : Fin 64 → Bridge → Bridge} (hf : ∀ i, KeepsReferences (f i)) :
    KeepsReferences fun b => b.forLines f := KeepsReferences.foldl hf _

theorem tick_keepsReferences : KeepsReferences Bridge.tick := by
  intro b h
  unfold Bridge.tick
  split
  · exact h
  · exact referenceInv_of_same rfl rfl h

/-! ### Entries -/

/-- The reference an entry held is released: the slot's count falls, or its drain ends (02 R31, R22). -/
theorem releaseSlot_referenceInv {b : Bridge} (h : ReferenceInv b) {d : Dir} {e : Fin 64} {i : Fin 32}
    (hs : (b.entry d e).slot = some i) : ReferenceInv (releaseSlot i (b.setEntry d e Entry.free)) := by
  obtain ⟨hcount, hidle, hdrain⟩ : SlotSound (b.slot i) (namingTotal b i) := h.2 i
  have hreleased : namingTotal (b.setEntry d e Entry.free) i + 1 = namingTotal b i := by
    have hset := namingTotal_setEntry b d e Entry.free i
    rwa [names_entry h.1, hs, beq_self_eq_true, names_free] at hset
  have hothers : ∀ j, j ≠ i → names Entry.free j = names (b.entry d e) j := by
    intro j hj
    rw [names_free, names_entry h.1, hs]
    simp [Ne.symm hj]
  have hslot : (b.setEntry d e Entry.free).slot i = b.slot i := rfl
  unfold releaseSlot
  simp only [hslot, Bool.and_eq_true, beq_iff_eq]
  split
  · next hlast =>
    refine referenceInv_of_pushKeeps (answerRetire_keeps i _) (setEntry_setSlot h (fun _ => rfl) hothers ?_)
    have hnone : namingTotal (b.setEntry d e Entry.free) i = 0 := by omega
    rw [hnone]
    exact slotSound_free
  · next hlast =>
    refine setEntry_setSlot h (fun _ => rfl) hothers ⟨?_, fun hst => ?_, fun hst => ?_⟩
    · show (b.slot i).inflight - 1 = _
      omega
    · show (b.slot i).inflight - 1 = 0
      rw [hidle hst]
    · show 0 < (b.slot i).inflight - 1
      have hpos := hdrain hst
      have hone : (b.slot i).inflight ≠ 1 := fun hone => hlast ⟨hst, hone⟩
      omega

theorem freeEntry_keepsReferences (d : Dir) (e : Fin 64) : KeepsReferences (freeEntry d e) := by
  intro b h
  unfold freeEntry
  dsimp only
  split
  · next hs => exact setEntry_names h (fun _ => rfl) fun i => by rw [names_free, names_entry h.1, hs]; rfl
  · next i hs => exact releaseSlot_referenceInv h hs

theorem quarantine_keepsReferences (d : Dir) (e : Fin 64) : KeepsReferences (quarantine d e) :=
  fun _ h => setEntry_sameSlot h nofun rfl

theorem owe_keepsReferences (d : Dir) (e : Fin 64) (status : Status) : KeepsReferences (owe d e status) :=
  fun _ h => setEntry_sameSlot h nofun rfl

theorem pushOwed_keepsReferences (d : Dir) (e : Fin 64) : KeepsReferences (pushOwed d e) := by
  intro b h
  have hpushed := referenceInv_of_pushKeeps
    (push_keeps (Push.plain d.requesterPort (owedDone b.unit (b.entry d e))) b) h
  unfold pushOwed
  dsimp only
  split
  · exact freeEntry_keepsReferences d e _ hpushed
  · exact quarantine_keepsReferences d e _ hpushed

/-! ### The routes of the Forwarding Engines -/

theorem lookup_live {b : Bridge} {d : Dir} {a : Addr} {i : Fin 32} (h : b.lookup d a = some i) :
    (b.slot i).state = .live := by
  have hits : (b.slot i).hits d a = true := List.find?_some (p := fun j => (b.slot j).hits d a) h
  simp only [Slot.hits, Bool.and_eq_true, beq_iff_eq] at hits
  exact hits.1.1

/-- What a route takes as given of the state it was judged in: the window a query claims is LIVE, and the entry a good
reply answers is in use. -/
def RouteSound (b : Bridge) : Route → Prop
  | .entry _ _ slot => ∀ i, slot = some i → (b.slot i).state = .live
  | .restore d e _ => (b.entry d e).state ≠ .free
  | _ => True

theorem forwardQuery_sound {b : Bridge} {p : Port} {k : Packet} {a : Addr} {slot : Option (Fin 32)}
    (h : ∀ i, slot = some i → (b.slot i).state = .live) : RouteSound b (forwardQuery b p k a slot) := by
  unfold forwardQuery
  split
  · trivial
  · exact h

theorem forwardPut_sound (b : Bridge) (p : Port) (k : Packet) (a : Addr) : RouteSound b (forwardPut b p k a) := by
  unfold forwardPut
  split <;> trivial

theorem earlyAckRoute_sound (b : Bridge) (p : Port) (k : Packet) (a : Addr) :
    RouteSound b (earlyAckRoute b p k a) := by
  unfold earlyAckRoute
  split <;> trivial

theorem routePut_sound (b : Bridge) (p : Port) (k : Packet) : RouteSound b (routePut b p k) := by
  unfold routePut
  dsimp only
  split
  · split
    · exact forwardPut_sound b p k _
    · trivial
  · split
    · exact forwardPut_sound b p k _
    · trivial
    · trivial

theorem routeGetSet_sound (b : Bridge) (p : Port) (k : Packet) : RouteSound b (routeGetSet b p k) := by
  unfold routeGetSet
  dsimp only
  split
  · next i hit =>
    split
    · trivial
    split
    · trivial
    split
    · exact earlyAckRoute_sound b p k _
    · exact forwardQuery_sound fun j hj => Option.some.inj hj ▸ lookup_live hit
  · split
    · exact forwardQuery_sound nofun
    · trivial
    · trivial

theorem routeManage_sound (b : Bridge) (p : Port) (k : Packet) : RouteSound b (routeManage b p k) := by
  unfold routeManage
  split
  · exact forwardQuery_sound nofun
  split <;> trivial

theorem routeReply_sound (b : Bridge) (p : Port) (k : Packet) : RouteSound b (routeReply b p k) := by
  unfold routeReply
  split
  · trivial
  split
  · next e _ answers =>
    have hwaiting : (b.entry p.replyTable e).state = .waiting := by
      simp only [answersEntry, Bool.and_eq_true, beq_iff_eq] at answers
      exact answers.1.1
    show (b.entry p.replyTable e).state ≠ .free
    rw [hwaiting]
    decide
  · trivial

theorem routeMalformed_sound (b : Bridge) (p : Port) (k : Packet) : RouteSound b (routeMalformed b p k) := by
  unfold routeMalformed
  repeat' split
  all_goals trivial

/-- A route is judged and carried out in one state, so what it takes as given holds (03 R43). -/
theorem routeOf_sound (b : Bridge) (p : Port) (k : Packet) : RouteSound b (routeOf b p k) := by
  unfold routeOf
  split
  · exact routeMalformed_sound b p k
  split
  · exact routePut_sound b p k
  · exact routeGetSet_sound b p k
  · exact routeGetSet_sound b p k
  · exact routeManage_sound b p k
  · trivial
  · exact routeReply_sound b p k
  · exact routeReply_sound b p k
  · exact routeMalformed_sound b p k

/-! ### Carrying a route out -/

theorem freeEntry?_free {b : Bridge} {d : Dir} {e : Fin 64} (h : b.freeEntry? d = some e) :
    (b.entry d e).state = .free := by
  simpa using List.find?_some h

/-- A FREE entry allocated with a LIVE window: the window gains the reference (02 R30). -/
theorem claimSlot_referenceInv {b : Bridge} (h : ReferenceInv b) {d : Dir} {e : Fin 64} {x : Entry}
    (hfree : (b.entry d e).state = .free) (hx : x.state ≠ .free)
    (hlive : ∀ i, x.slot = some i → (b.slot i).state = .live) :
    ReferenceInv (claimSlot x.slot (b.setEntry d e x)) := by
  have hold : b.entry d e = Entry.free := h.1 d e hfree
  cases hs : x.slot with
  | none => exact setEntry_sameSlot h hx (by rw [hs, hold]; rfl)
  | some i =>
    have hst := hlive i hs
    have hclaimed : namingTotal (b.setEntry d e x) i = namingTotal b i + 1 := by
      have hset := namingTotal_setEntry b d e x i
      rwa [hold, names_free, names_of_ne_free hx, hs, beq_self_eq_true] at hset
    have hcount := inflight_eq_namingTotal h i
    refine setEntry_setSlot h (fun hf => absurd hf hx) (fun j hj => ?_)
      ⟨?_, fun hidle => ?_, fun _ => Nat.succ_pos _⟩
    · rw [names_of_ne_free hx, hs, hold, names_free]
      simp [Ne.symm hj]
    · show (b.slot i).inflight + 1 = _
      omega
    · have hidle : (b.slot i).state = .free ∨ (b.slot i).state = .staged := hidle
      simp [hst] at hidle

theorem allocate_referenceInv {b : Bridge} (h : ReferenceInv b) (d : Dir) (k : Packet) {slot : Option (Fin 32)}
    (hlive : ∀ i, slot = some i → (b.slot i).state = .live) : ReferenceInv (allocate d k slot b) := by
  unfold allocate
  split
  · exact h
  · next e he =>
    exact referenceInv_of_pushKeeps (push_keeps _ _)
      (claimSlot_referenceInv h (x := Entry.allocated k slot _) (freeEntry?_free he) nofun hlive)

theorem takeLevel_keepsReferences (i : Fin 64) (level : Bool) (unit : UnitNo) :
    KeepsReferences (takeLevel i level unit) := by
  intro b h
  unfold takeLevel
  split
  · exact referenceInv_of_pushKeeps ((setLine_keeps b i _).trans (notifyIfDue_keeps i _)) h
  · exact referenceInv_of_pushKeeps ((setLine_keeps b i _).trans (cancelNotification_keeps i _)) h

theorem restoreReply_referenceInv {b : Bridge} (h : ReferenceInv b) {d : Dir} {e : Fin 64} (k : Packet)
    (hused : (b.entry d e).state ≠ .free) : ReferenceInv (restoreReply d e k b) := by
  have hkeeps := push_keeps (Push.plain d.requesterPort (restored (b.entry d e) k)) b
  have hentry : (push (Push.plain d.requesterPort (restored (b.entry d e) k)) b).entry d e = b.entry d e :=
    congrArg (fun tables => (tables.get d)[e]) hkeeps.tables
  unfold restoreReply
  dsimp only
  split
  · exact freeEntry_keepsReferences d e _ (referenceInv_of_pushKeeps hkeeps h)
  · exact setEntry_sameSlot (referenceInv_of_pushKeeps hkeeps h) hused (by rw [hentry]; rfl)

/-- A discarded or malformed reply seen by an entry in use (04 R70, Table 4-2). -/
theorem setReplySeen_referenceInv {b : Bridge} (h : ReferenceInv b) {d : Dir} {e : Fin 64} (seen : Bool)
    (hst : (b.entry d e).state = .returning) :
    ReferenceInv (b.setEntry d e { b.entry d e with replySeen := seen }) :=
  setEntry_sameSlot h (by show (b.entry d e).state ≠ .free; rw [hst]; decide) rfl

theorem dropReply_keepsReferences (d : Dir) (e : Fin 64) (k : Packet) : KeepsReferences (dropReply d e k) := by
  intro b h
  unfold dropReply
  dsimp only
  split
  · exact referenceInv_of_pushKeeps (raise_keeps _ _) h
  split
  · exact referenceInv_of_pushKeeps (raise_keeps _ _) (owe_keepsReferences d e _ b h)
  · next hst => exact referenceInv_of_pushKeeps (raise_keeps _ _) (setReplySeen_referenceInv h _ hst)
  · refine referenceInv_of_pushKeeps (raise_keeps _ _) ?_
    split
    · exact freeEntry_keepsReferences d e b h
    · exact h
  · exact h

theorem takeNotice_keepsReferences (d : Dir) (e : Fin 64) (final : Bool) : KeepsReferences (takeNotice d e final) := by
  intro b h
  unfold takeNotice
  dsimp only
  split
  · exact h
  split
  · exact h
  · exact owe_keepsReferences d e _ b h
  · next hst => exact setReplySeen_referenceInv h _ hst
  · split
    · exact freeEntry_keepsReferences d e b h
    · exact h

theorem carryOut_referenceInv {b : Bridge} (h : ReferenceInv b) {r : Route} (hr : RouteSound b r) :
    ReferenceInv (r.carryOut b) := by
  cases r with
  | single x => exact referenceInv_of_pushKeeps (push_keeps x b) h
  | entry d k slot => exact allocate_referenceInv h d k hr
  | earlyAck x y => exact referenceInv_of_pushKeeps (pushBoth_keeps x y b) h
  | answer x rec => exact referenceInv_of_pushKeeps ((push_keeps x b).trans (raiseIf_keeps rec _)) h
  | engine c => exact referenceInv_of_same rfl rfl h
  | signal i level unit => exact takeLevel_keepsReferences i level unit b h
  | restore d e k => exact restoreReply_referenceInv h k hr
  | badReply d e k => exact dropReply_keepsReferences d e k b h
  | discard rec => exact referenceInv_of_pushKeeps (raise_keeps rec b) h
  | notice rec d e final =>
    exact referenceInv_of_pushKeeps (raise_keeps rec _) (takeNotice_keepsReferences d e final b h)

theorem takeAt_keepsReferences (p : Port) (c : Cls) (i : Nat) : KeepsReferences (takeAt p c i) := by
  intro b h
  unfold takeAt
  dsimp only
  split
  · exact h
  · next k _ =>
    split
    · exact referenceInv_of_same rfl rfl (carryOut_referenceInv h (routeOf_sound b p k))
    · exact h

/-! ### The offering of freed places -/

theorem admitFirst_referenceInv {b b' : Bridge} {p : Port} {c : Cls} (h : ReferenceInv b)
    (hb : admitFirst p c b = some b') : ReferenceInv b' := by
  simp only [admitFirst, Option.orElse_eq_orElse, Option.orElse_eq_or, Option.or_eq_some_iff] at hb
  rcases hb with (hrank1 | ⟨_, hrank2⟩) | ⟨_, hrank3 | ⟨_, hrank45⟩⟩
  · split at hrank1
    · obtain ⟨e, _, rfl⟩ := Option.map_eq_some_iff.mp hrank1
      exact pushOwed_keepsReferences _ e b h
    · cases hrank1
  · split at hrank2
    · cases hrank2
      exact referenceInv_of_pushKeeps (admitReply_keeps p b) h
    · cases hrank2
  · split at hrank3
    · obtain ⟨i, _, rfl⟩ := Option.map_eq_some_iff.mp hrank3
      exact referenceInv_of_pushKeeps (admitLine_keeps i b) h
    · cases hrank3
  · obtain ⟨q, _, rfl⟩ := Option.map_eq_some_iff.mp hrank45
    exact takeAt_keepsReferences _ _ _ b h

theorem offerPlaces_keepsReferences (p : Port) (c : Cls) (n : Nat) : KeepsReferences (offerPlaces p c n) := by
  induction n with
  | zero => exact fun _ h => h
  | succ n ih =>
    intro b h
    unfold offerPlaces
    split
    · split
      · exact h
      · next b' hb => exact ih b' (admitFirst_referenceInv h hb)
    · exact h

theorem offerFreed_keepsReferences (before : Bridge) (p : Port) (c : Cls) :
    KeepsReferences (offerFreed before p c) := by
  intro b h
  unfold offerFreed
  split
  · exact offerPlaces_keepsReferences p c _ b h
  · exact h

theorem offerAll_keepsReferences (before : Bridge) (p : Port) : KeepsReferences (offerAll before p) := fun b h =>
  offerFreed_keepsReferences before p .query _
    (offerFreed_keepsReferences before p .stream _ (offerFreed_keepsReferences before p .reply b h))

theorem judge_keepsReferences (w : WaitingPool) : KeepsReferences w.judge := by
  intro b h
  have hhead : ReferenceInv (if w.head then takeAt w.port w.cls 0 b else b) := by
    split
    · exact takeAt_keepsReferences _ _ _ b h
    · exact h
  unfold WaitingPool.judge
  dsimp only
  generalize (if w.head = true then takeAt w.port w.cls 0 b else b) = judged at hhead
  split
  · exact hhead
  · generalize (if (w.head && headReady b w.port w.cls) = true then _ else _) = j
    split
    · exact takeAt_keepsReferences _ _ _ _ hhead
    · exact hhead


/-! ### Trainings -/

theorem beginTraining_keepsReferences (p : Port) (cause : Cause) (carried : Rate) :
    KeepsReferences (beginTraining p cause carried) := fun b h =>
  referenceInv_of_same (beginTraining_begun p cause carried b).slots (beginTraining_begun p cause carried b).tables h

theorem endTraffic_keepsReferences (p : Port) : KeepsReferences (endTraffic p) := fun b h =>
  referenceInv_of_pushKeeps (endTraffic_keeps p b) (referenceInv_of_same rfl rfl h)

theorem settleRetrain_keepsReferences (p : Port) : KeepsReferences (settleRetrain p) := by
  intro b h
  unfold settleRetrain
  split
  · exact referenceInv_of_pushKeeps (answerRetrain_keeps p _ _ b) h
  split
  · exact beginTraining_keepsReferences p _ _ _ (referenceInv_of_same rfl rfl h)
  · exact h

theorem enterActive_keepsReferences (p : Port) (w : Width) : KeepsReferences (enterActive p w) := fun _ h =>
  settleRetrain_keepsReferences p _ (referenceInv_of_same rfl rfl h)

theorem wakeToActive_keepsReferences (p : Port) : KeepsReferences (wakeToActive p) := fun _ h =>
  settleRetrain_keepsReferences p _ (referenceInv_of_same rfl rfl h)

/-! ### A port going DOWN -/

theorem farPortLost_keepsReferences (d : Dir) (e : Fin 64) : KeepsReferences (farPortLost d e) := by
  intro b h
  have hslot : ∀ x : Entry, (if x.pos == .queued then { x with pos := .cleared } else x).slot = x.slot := by
    intro x
    split <;> rfl
  have hset (hused : (if (b.entry d e).pos == .queued then { b.entry d e with pos := .cleared }
      else b.entry d e).state ≠ .free) :=
    setEntry_sameSlot h hused (hslot (b.entry d e))
  unfold farPortLost
  dsimp only
  generalize (if (b.entry d e).pos == .queued then { b.entry d e with pos := .cleared } else b.entry d e) = x at hset
  split
  · exact h
  · next hst => exact owe_keepsReferences d e _ _ (hset (by rw [hst]; decide))
  · next hst => exact hset (by rw [hst]; decide)
  · next hst =>
    split
    · exact freeEntry_keepsReferences d e _ (hset (by rw [hst]; decide))
    · exact h

theorem lossAct_keepsReferences (p : Port) (a : LossAct) : KeepsReferences (a.carryOut p) := by
  intro b h
  cases a with
  | record r => exact referenceInv_of_pushKeeps (raise_keeps r b) h
  | entryLost d e => exact farPortLost_keepsReferences d e b h
  | donePushed d e => exact pushOwed_keepsReferences d e b h
  | retrainEnds => exact referenceInv_of_pushKeeps (answerRetrain_keeps p _ _ b) h
  | replyPushed => exact referenceInv_of_pushKeeps (admitReply_keeps p b) h
  | linePushed i =>
    show ReferenceInv (if (b.line i).state == .pending then admitLine i b else b)
    split
    · exact referenceInv_of_pushKeeps (admitLine_keeps i b) h
    · exact h
  | poolJudged w => exact judge_keepsReferences w b h

theorem goDown_keepsReferences (p : Port) : KeepsReferences (goDown p) := fun _ h =>
  KeepsReferences.foldl (lossAct_keepsReferences p) _ _ (referenceInv_of_same rfl rfl h)

theorem failAttempt_keepsReferences (p : Port) : KeepsReferences (failAttempt p) := by
  intro b h
  unfold failAttempt
  dsimp only
  split
  · exact referenceInv_of_same rfl rfl h
  · exact goDown_keepsReferences p _ (referenceInv_of_same rfl rfl h)

/-! ### The CONFIG exchange -/

theorem emitConfig_keepsReferences (p : Port) (ack : Option Seq) (c : ConfigFlit) :
    KeepsReferences (emitConfig p ack c) := by
  intro b h
  cases ack <;> exact referenceInv_of_same rfl rfl h

theorem sendConfig_keepsReferences (p : Port) : KeepsReferences (sendConfig p) := fun _ h =>
  emitConfig_keepsReferences p _ _ _ (referenceInv_of_same rfl rfl h)

theorem absorbConfig_keepsReferences (p : Port) (c : ConfigFlit) : KeepsReferences (absorbConfig p c) := by
  intro b h
  have hrenumbered : ReferenceInv (if c.restart then renumber p b else b) := by
    split
    · exact referenceInv_of_same rfl rfl h
    · exact h
  unfold absorbConfig
  dsimp only
  generalize (if c.restart = true then renumber p b else b) = r at hrenumbered
  split <;> exact referenceInv_of_same rfl rfl hrenumbered

theorem takeConfig_keepsReferences (p : Port) (c : ConfigFlit) : KeepsReferences (takeConfig p c) := by
  intro b h
  have habsorbed := absorbConfig_keepsReferences p c b h
  unfold takeConfig
  dsimp only
  split
  · exact failAttempt_keepsReferences p _ habsorbed
  · exact enterActive_keepsReferences p _ _ habsorbed

theorem enterConfig_keepsReferences (p : Port) : KeepsReferences (enterConfig p) := by
  intro b h
  have hsent : ReferenceInv (sendConfig p (b.setLinkState p .config)) :=
    sendConfig_keepsReferences p _ (referenceInv_of_same rfl rfl h)
  unfold enterConfig
  dsimp only
  split
  · exact hsent
  · exact takeConfig_keepsReferences p _ _ hsent

/-! ### Resets -/

/-- After a cold reset no slot is in use and no entry names one (02 R39). -/
theorem coldReset_referenceInv (unitsel : UnitNo) (leafmgt : Bool) (b : Bridge) :
    ReferenceInv (coldResetOf unitsel leafmgt b) := by
  have hentry : ∀ d e, (coldResetOf unitsel leafmgt b).entry d e = Entry.free := by
    intro d e
    cases d <;> simp [coldResetOf, Bridge.cold, Bridge.entry, PerDir.get]
  have hslot : ∀ i, (coldResetOf unitsel leafmgt b).slot i = Slot.free := by
    intro i
    simp [coldResetOf, Bridge.cold, Bridge.slot]
  refine referenceInv_iff.mpr ⟨fun d e _ => hentry d e, fun i => ?_⟩
  have hnone : namingTotal (coldResetOf unitsel leafmgt b) i = 0 := by
    simp [namingTotal, naming_eq, hentry, names_free]
  rw [hslot, hnone]
  exact slotSound_free

theorem releaseReset_keepsReferences : KeepsReferences releaseReset := by
  intro b h
  unfold releaseReset
  split
  · exact beginTraining_keepsReferences _ _ _ _
      (beginTraining_keepsReferences _ _ _ _ (referenceInv_of_same rfl rfl h))
  · exact h

theorem downEntryReset_keepsReferences (e : Fin 64) : KeepsReferences (downEntryReset e) := by
  intro b h
  unfold downEntryReset
  dsimp only
  split
  · exact quarantine_keepsReferences _ e b h
  · split
    · exact freeEntry_keepsReferences _ e b h
    · exact quarantine_keepsReferences _ e b h
  · exact h
  · exact h

theorem upEntryReset_keepsReferences (e : Fin 64) : KeepsReferences (upEntryReset e) := by
  intro b h
  have hset (hused : (b.entry .up e).state ≠ .free) :
      ReferenceInv (b.setEntry .up e { b.entry .up e with pos := .cleared }) :=
    setEntry_sameSlot h hused rfl
  unfold upEntryReset
  dsimp only
  split
  · exact h
  · next hst => exact owe_keepsReferences _ e _ _ (hset (by rw [hst]; decide))
  · next hst => exact hset (by rw [hst]; decide)
  · exact freeEntry_keepsReferences _ e b h

theorem resetTables_keepsReferences (forwarding : Bool) : KeepsReferences (resetTables forwarding) := by
  intro b h
  unfold resetTables
  split
  · exact forEntries_keepsReferences (freeEntry_keepsReferences .up) _
      (forEntries_keepsReferences (freeEntry_keepsReferences .down) b h)
  · exact forEntries_keepsReferences upEntryReset_keepsReferences _
      (forEntries_keepsReferences downEntryReset_keepsReferences b h)

theorem resetTrainings_keepsReferences (forwarding : Bool) : KeepsReferences (resetTrainings forwarding) := by
  intro b h
  have hroot := beginTraining_keepsReferences .root .reset .r3_2 b h
  unfold resetTrainings
  dsimp only
  split
  · exact beginTraining_keepsReferences _ _ _ _ (referenceInv_of_same (slots_emit ..) (tables_emit ..) hroot)
  · exact hroot

theorem enterFlushRecords_keepsReferences (rs : List Record) : KeepsReferences (enterFlushRecords rs) := fun _ h =>
  KeepsReferences.foldl (fun r b h => referenceInv_of_pushKeeps (enterRecord_keeps b r) h) _ _
    (referenceInv_of_same rfl rfl h)

theorem resetPort_keepsReferences (p : Port) : KeepsReferences (resetPort p) := fun _ h =>
  referenceInv_of_same rfl rfl h

theorem notifyIfDue_keepsReferences (i : Fin 64) : KeepsReferences (notifyIfDue i) := fun b h =>
  referenceInv_of_pushKeeps (notifyIfDue_keeps i b) h

theorem rootResetOf_keepsReferences : KeepsReferences rootResetOf := by
  intro b h
  have hports : ReferenceInv
      (if b.engine.resetForwarding then resetPort .leaf (resetPort .root b) else resetPort .root b) := by
    split
    · exact resetPort_keepsReferences _ _ (resetPort_keepsReferences _ b h)
    · exact resetPort_keepsReferences _ b h
  refine offerAll_keepsReferences b .root _ (forLines_keepsReferences notifyIfDue_keepsReferences _
    (referenceInv_of_same rfl rfl (enterFlushRecords_keepsReferences _ _ (resetTrainings_keepsReferences _ _
      (resetTables_keepsReferences _ _ ?_)))))
  exact referenceInv_of_same rfl rfl hports

theorem leafResetTaken_keepsReferences : KeepsReferences leafResetTaken := fun _ h =>
  beginTraining_keepsReferences _ _ _ _ (referenceInv_of_same rfl rfl h)

/-! ### Packets and flits received -/

theorem takeExpected_keepsReferences (p : Port) (k : Packet) : KeepsReferences (takeExpected p k) := by
  intro b h
  unfold takeExpected
  split
  · exact beginTraining_keepsReferences p _ _ _ (referenceInv_of_pushKeeps (raise_keeps _ b) h)
  · exact referenceInv_of_same rfl rfl h

theorem judgeFrame_keepsReferences (p : Port) (f : RxFrame) : KeepsReferences (judgeFrame p f) := by
  intro b h
  unfold judgeFrame
  dsimp only
  split
  · split
    · exact takeExpected_keepsReferences p _ b h
    split
    · exact referenceInv_of_same rfl rfl h
    · exact referenceInv_of_same rfl rfl h
  · exact referenceInv_of_pushKeeps (raise_keeps _ _) (referenceInv_of_same rfl rfl h)

theorem takeTrain_keepsReferences (p : Port) (marker : Bool) (rate : Rate) :
    KeepsReferences (takeTrain p marker rate) := by
  intro b h
  unfold takeTrain
  split
  · exact beginTraining_keepsReferences p _ _ b h
  · exact beginTraining_keepsReferences p _ _ b h
  · exact beginTraining_keepsReferences p _ _ b h
  · exact beginTraining_keepsReferences p _ _ b h
  · split
    · exact enterConfig_keepsReferences p b h
    · exact h
  · split
    · exact h
    · exact failAttempt_keepsReferences p b h

theorem meetConfig_keepsReferences (p : Port) (c : ConfigFlit) : KeepsReferences (meetConfig p c) := by
  intro b h
  have hkept : ReferenceInv (keepConfig p c b) := referenceInv_of_same rfl rfl h
  unfold meetConfig
  dsimp only
  split
  · split
    · exact enterConfig_keepsReferences p _ hkept
    · exact hkept
  · exact takeConfig_keepsReferences p c b h
  all_goals exact h

theorem meetAck_keepsReferences (p : Port) (n : Seq) : KeepsReferences (meetAck p n) := by
  intro b h
  unfold meetAck
  split <;> exact referenceInv_of_same rfl rfl h

theorem triggerReplay_keepsReferences (p : Port) : KeepsReferences (triggerReplay p) := by
  intro b h
  unfold triggerReplay
  split
  · exact referenceInv_of_same rfl rfl h
  · exact beginTraining_keepsReferences p _ _ _ (referenceInv_of_pushKeeps (raise_keeps _ b) h)

theorem takeNak_keepsReferences (p : Port) (n : Seq) : KeepsReferences (takeNak p n) := by
  intro b h
  unfold takeNak
  dsimp only
  split
  · exact triggerReplay_keepsReferences p _ (referenceInv_of_same rfl rfl h)
  split <;> exact referenceInv_of_same rfl rfl h

theorem takePark_keepsReferences (p : Port) : KeepsReferences (takePark p) := by
  intro b h
  unfold takePark
  split
  · exact endTraffic_keepsReferences p _ (referenceInv_of_same rfl rfl h)
  · exact referenceInv_of_same rfl rfl h

theorem takeWake_keepsReferences (p : Port) : KeepsReferences (takeWake p) := by
  intro b h
  unfold takeWake
  split
  · exact wakeToActive_keepsReferences p _ (referenceInv_of_same rfl rfl h)
  · exact wakeToActive_keepsReferences p b h
  all_goals exact h

/-! ### The link -/

theorem endSweep_keepsReferences (p : Port) (passing : Vector (BitVec 64) 16) :
    KeepsReferences (endSweep p passing) := by
  intro b h
  unfold endSweep
  dsimp only
  split
  · exact failAttempt_keepsReferences p _ (referenceInv_of_same rfl rfl h)
  split
  · exact enterConfig_keepsReferences p _ (referenceInv_of_same rfl rfl h)
  · exact referenceInv_of_same rfl rfl h

theorem failDrain_keepsReferences (p : Port) : KeepsReferences (failDrain p) := fun b h =>
  referenceInv_of_pushKeeps (failDrain_keeps p b) h

theorem completePark_keepsReferences (p : Port) : KeepsReferences (completePark p) := by
  intro b h
  unfold completePark
  split
  · exact h
  · exact referenceInv_of_pushKeeps (deliverWith_keeps push_keeps _ _ _) (referenceInv_of_same rfl rfl h)

theorem repeatConfig_keepsReferences (p : Port) : KeepsReferences (repeatConfig p) := by
  intro b h
  unfold repeatConfig
  split
  · exact h
  · exact emitConfig_keepsReferences p _ _ _ (referenceInv_of_same rfl rfl h)

/-! ### Sending -/

theorem sendAnswer_keepsReferences (p : Port) : KeepsReferences (sendAnswer p) := by
  intro b h
  unfold sendAnswer
  split
  · exact referenceInv_of_same rfl rfl h
  split
  · exact referenceInv_of_same rfl rfl h
  · exact h

theorem sendReturns_keepsReferences (p : Port) : KeepsReferences (sendReturns p) := by
  intro b h
  unfold sendReturns
  split
  · exact referenceInv_of_same rfl rfl h
  · exact h

theorem sendDue_keepsReferences (p : Port) : KeepsReferences (sendDue p) := by
  intro b h
  have hcounted : ReferenceInv { b with freeCtr := b.freeCtr + 1 } := referenceInv_of_same rfl rfl h
  unfold sendDue
  dsimp only
  split
  · split
    · exact sendReturns_keepsReferences p _ (sendAnswer_keepsReferences p _ hcounted)
    · exact sendAnswer_keepsReferences p _ (sendReturns_keepsReferences p _ hcounted)
  · exact sendReturns_keepsReferences p _ (sendAnswer_keepsReferences p b h)

theorem queryTransmitted_keepsReferences (m : Mark) : KeepsReferences (queryTransmitted m) := by
  intro b h
  unfold queryTransmitted
  dsimp only
  split
  · exact h
  · next hqueued =>
    refine setEntry_sameSlot h ?_ rfl
    show (b.entry m.table m.entry).state ≠ .free
    intro hfree
    simp [hfree] at hqueued

theorem sendHead_keepsReferences (p : Port) (c : Cls) (x : Queued) (rest : List Queued) :
    KeepsReferences (sendHead p c x rest) := by
  intro b h
  have hdue := sendDue_keepsReferences p b h
  unfold sendHead
  dsimp only
  refine offerFreed_keepsReferences b p c _ ?_
  split
  · exact referenceInv_of_same rfl rfl hdue
  · exact queryTransmitted_keepsReferences _ _ (referenceInv_of_same rfl rfl hdue)

theorem arbitrate_keepsReferences (p : Port) : KeepsReferences (arbitrate p) := by
  intro b h
  unfold arbitrate
  split
  · split
    · exact h
    split
    · exact h
    · exact sendHead_keepsReferences p _ _ _ b h
  · exact h

theorem resend_keepsReferences (p : Port) : KeepsReferences (resend p) := by
  intro b h
  unfold resend
  split
  · exact h
  split
  · exact h
  · exact referenceInv_of_same rfl rfl (sendDue_keepsReferences p b h)

/-! ### Taking packets, timers and admissions -/

theorem takeHead_keepsReferences (p : Port) (c : Cls) (kinds : List Kind) : KeepsReferences (takeHead p c kinds) := by
  intro b h
  unfold takeHead
  split
  · exact h
  split
  · exact takeAt_keepsReferences p c 0 b h
  · exact h

theorem passDeadline_keepsReferences (d : Dir) (e : Fin 64) : KeepsReferences (passDeadline d e) := fun b h =>
  referenceInv_of_pushKeeps (raise_keeps _ _) (owe_keepsReferences d e _ b h)

theorem passQuarantine_referenceInv {b : Bridge} (h : ReferenceInv b) {d : Dir} {e : Fin 64}
    (hst : (b.entry d e).state = .quarantine) : ReferenceInv (passQuarantine d e b) := by
  unfold passQuarantine
  dsimp only
  split
  · exact referenceInv_of_pushKeeps (raise_keeps _ _) (freeEntry_keepsReferences d e b h)
  · exact setEntry_sameSlot h (by show (b.entry d e).state ≠ .free; rw [hst]; decide) rfl
  · exact freeEntry_keepsReferences d e b h

/-! ### The Management Engine -/

/-- The part as a command's effect leaves it. -/
def verdictPart : Verdict → Bridge
  | .answer _ _ _ b => b
  | .defer _ b => b

theorem verdictPart_done (data : List Byte) (b : Bridge) : verdictPart (done data b) = b := rfl

/-- The effect of a command keeps every window's in-flight count true. -/
def EffectKeeps (effect : Command → Bridge → Verdict) : Prop :=
  ∀ c b, ReferenceInv b → ReferenceInv (verdictPart (effect c b))

theorem settle_referenceInv {v : Verdict} (h : ReferenceInv (verdictPart v)) (c : Command) :
    ReferenceInv (v.settle c) := by
  cases v with
  | answer status data wakes b => exact referenceInv_of_pushKeeps (deliverWith_keeps push_keeps _ _ b) h
  | defer op b => exact referenceInv_of_same rfl rfl h

theorem judge_effectKeeps (req : Nat) {effect : Command → Bridge → Verdict} (he : EffectKeeps effect) :
    EffectKeeps (judge req effect) := by
  intro c b h
  unfold judge
  split
  · exact h
  split
  · exact h
  split
  · exact h
  · exact he c b h

theorem runHead_keepsReferences (code : BitVec 6) (req : Nat) {effect : Command → Bridge → Verdict}
    (he : EffectKeeps effect) : KeepsReferences (runHead code req effect) := by
  intro b h
  unfold runHead
  split
  · exact h
  · next c _ _ =>
    split
    · exact settle_referenceInv (judge_effectKeeps req he c b h) c
    · exact h

theorem runUnknown_keepsReferences : KeepsReferences runUnknown := by
  intro b h
  unfold runUnknown
  split
  · exact h
  · next c _ _ =>
    split
    · exact settle_referenceInv (v := refuse .malformed b) h c
    · exact h

/-! ### The commands that write no slot -/

theorem accessSet_keeps : EffectKeeps accessSetEffect := by
  intro c b h
  unfold accessSetEffect
  split
  · exact referenceInv_of_same rfl rfl h
  · exact h

theorem portStatus_keeps : EffectKeeps portStatusEffect := by
  intro c b h
  unfold portStatusEffect
  split <;> exact h

theorem writeSettings_referenceInv {c : Command} {ports : List Port} {b b' : Bridge} (h : ReferenceInv b)
    (hb : writeSettings c ports b = some b') : ReferenceInv b' := by
  induction ports generalizing b with
  | nil => cases hb; exact h
  | cons p ps ih =>
    unfold writeSettings at hb
    split at hb
    · cases hb
    · refine ih ?_ hb
      exact referenceInv_of_same rfl rfl h

theorem linkSet_keeps : EffectKeeps linkSetEffect := by
  intro c b h
  unfold linkSetEffect
  split
  · exact h
  · next b' hb =>
    obtain ⟨ps, _, hw⟩ := Option.bind_eq_some_iff.mp hb
    exact writeSettings_referenceInv h hw

theorem linkRetrain_keeps : EffectKeeps linkRetrainEffect := by
  intro c b h
  unfold linkRetrainEffect
  split
  · exact h
  unfold retrainPort
  split
  · exact h
  split
  · exact h
  split
  · exact beginTraining_keepsReferences _ _ _ b h
  · exact beginTraining_keepsReferences _ _ _ b h
  · exact beginTraining_keepsReferences _ _ _ b h
  all_goals exact h

theorem linkPark_keeps : EffectKeeps linkParkEffect := by
  intro c b h
  unfold linkParkEffect
  split
  · exact h
  unfold parkCommand
  split
  · exact h
  split
  · exact referenceInv_of_same rfl rfl h
  split <;> exact h

theorem linkWake_keeps : EffectKeeps linkWakeEffect := by
  intro c b h
  unfold linkWakeEffect
  split
  · exact h
  split
  · exact referenceInv_of_same rfl rfl h
  · exact h

theorem laneRead_keeps : EffectKeeps laneReadEffect := by
  intro c b h
  unfold laneReadEffect
  split <;> exact h

theorem writePlan_keepsReferences (plan : PerClass (Amount Nat)) (ports : List Port) :
    KeepsReferences (writePlan plan ports) := KeepsReferences.foldl (fun p => onPort_keepsReferences p _) ports

theorem bufferPlanSet_keeps : EffectKeeps bufferPlanSetEffect := by
  intro c b h
  unfold bufferPlanSetEffect
  split
  · exact h
  split
  · exact h
  · exact writePlan_keepsReferences _ _ b h

theorem arbiterSet_keeps : EffectKeeps arbiterSetEffect := by
  intro c b h
  unfold arbiterSetEffect
  split
  · exact KeepsReferences.foldl (f := writePriorities c) (fun p => onPort_keepsReferences p _) _ b h
  · exact h

theorem windowRead_keeps : EffectKeeps windowReadEffect := by
  intro c b h
  unfold windowReadEffect
  split <;> exact h

theorem groupSet_keeps : EffectKeeps groupSetEffect := by
  intro c b h
  unfold groupSetEffect
  split
  · exact h
  · exact referenceInv_of_same rfl rfl h

theorem groupRead_keeps : EffectKeeps groupReadEffect := by
  intro c b h
  unfold groupReadEffect
  split <;> exact h

theorem missPolicySet_keeps : EffectKeeps missPolicySetEffect := by
  intro c b h
  unfold missPolicySetEffect
  split
  · exact referenceInv_of_same rfl rfl h
  · exact h

theorem timerSet_keeps : EffectKeeps timerSetEffect := by
  intro c b h
  unfold timerSetEffect
  split
  · exact referenceInv_of_same rfl rfl h
  · exact h

theorem queryRead_keeps : EffectKeeps queryReadEffect := by
  intro c b h
  unfold queryReadEffect
  split <;> exact h

theorem signalConfig_keeps : EffectKeeps signalConfigEffect := by
  intro c b h
  unfold signalConfigEffect
  split
  · exact h
  split
  · exact h
  · dsimp only
    rw [verdictPart_done]
    split
    · exact referenceInv_of_pushKeeps ((setLine_keeps b _ _).trans (notifyIfDue_keeps _ _)) h
    · exact referenceInv_of_pushKeeps ((setLine_keeps b _ _).trans (cancelNotification_keeps _ _)) h

theorem signalMask_keeps : EffectKeeps signalMaskEffect := by
  intro c b h
  unfold signalMaskEffect
  split
  · exact referenceInv_of_pushKeeps ((setLine_keeps b _ _).trans (notifyIfDue_keeps _ _)) h
  · exact referenceInv_of_pushKeeps ((setLine_keeps b _ _).trans (cancelNotification_keeps _ _)) h
  · exact h

theorem signalServiced_keeps : EffectKeeps signalServicedEffect := by
  intro c b h
  unfold signalServicedEffect
  split
  · exact h
  split
  · exact referenceInv_of_pushKeeps ((setLine_keeps b _ _).trans (notifyIfDue_keeps _ _)) h
  · exact h

theorem signalRead_keeps : EffectKeeps signalReadEffect := by
  intro c b h
  unfold signalReadEffect
  split <;> exact h

theorem deassertAlert_keepsReferences : KeepsReferences deassertAlert := fun b h =>
  referenceInv_of_pushKeeps ((setLine_keeps b 0 _).trans (cancelNotification_keeps 0 _)) h

theorem captureRead_keeps : EffectKeeps captureReadEffect := by
  intro c b h
  unfold captureReadEffect
  dsimp only
  split
  · exact h
  · exact deassertAlert_keepsReferences _ (referenceInv_of_same rfl rfl h)
  · exact referenceInv_of_same rfl rfl h

theorem captureClear_keeps : EffectKeeps captureClearEffect := by
  intro c b h
  have hcleared : ReferenceInv { b with capture := [], overflowed := false } := referenceInv_of_same rfl rfl h
  unfold captureClearEffect
  dsimp only
  rw [verdictPart_done]
  split
  · exact hcleared
  · exact deassertAlert_keepsReferences _ hcleared

/-! ### The commands that write a slot -/

theorem windowLoad_keeps : EffectKeeps windowLoadEffect := by
  intro c b h
  obtain ⟨hcount, hidle, _⟩ : SlotSound (b.slot c.loadSlot) (namingTotal b c.loadSlot) := h.2 c.loadSlot
  have hload (hst : (b.slot c.loadSlot).state = .free ∨ (b.slot c.loadSlot).state = .staged) :
      ReferenceInv (b.setSlot c.loadSlot { state := .staged, window := c.window, inflight := 0 }) :=
    setSlot_sound h ⟨(hidle hst).symm.trans hcount, fun _ => rfl, nofun⟩
  unfold windowLoadEffect
  split
  · next hst => exact hload (.inl hst)
  · next hst => exact hload (.inr hst)
  · exact h
  · exact h

theorem windowActivate_keeps : EffectKeeps windowActivateEffect := by
  intro c b h
  unfold windowActivateEffect
  split
  · exact h
  · next i _ =>
    dsimp only
    split
    · split
      · exact setSlot_sound h ⟨inflight_eq_namingTotal h i, by simp, nofun⟩
      · exact h
    all_goals exact h

theorem windowRetire_keeps : EffectKeeps windowRetireEffect := by
  intro c b h
  unfold windowRetireEffect
  split
  · exact h
  · next i _ =>
    have hcount := inflight_eq_namingTotal h i
    dsimp only
    split
    · split
      · next hnone =>
        refine setSlot_sound h ?_
        rw [← hcount, hnone]
        exact slotSound_free
      · next hsome =>
        split
        · exact setSlot_sound h ⟨hcount, by simp, fun _ => Nat.pos_of_ne_zero hsome⟩
        · exact h
    all_goals exact h

theorem windowDiscard_keeps : EffectKeeps windowDiscardEffect := by
  intro c b h
  unfold windowDiscardEffect
  split
  · exact h
  · next i _ =>
    obtain ⟨hcount, hidle, _⟩ : SlotSound (b.slot i) (namingTotal b i) := h.2 i
    split
    · next hst =>
      refine setSlot_sound h ?_
      rw [← hcount, hidle (.inr hst)]
      exact slotSound_free
    · exact h

/-! ### The step -/

theorem event_referenceInv {f : Bridge → Bridge} (hf : KeepsReferences f) {s : State} (h : ReferenceInv s.bridge) :
    ReferenceInv (s.event f).bridge := by
  unfold State.event
  rw [bridge_onBridge]
  split
  · exact h
  · exact hf _ h

/-- An event that acts only where its condition holds (log 1). -/
theorem event_ite_referenceInv {cond : Bridge → Prop} [DecidablePred cond] {f : Bridge → Bridge} {s : State}
    (hf : ∀ b, cond b → ReferenceInv b → ReferenceInv (f b)) (h : ReferenceInv s.bridge) :
    ReferenceInv (s.event fun b => if cond b then f b else b).bridge := by
  refine event_referenceInv (fun b hb => ?_) h
  split
  · next hc => exact hf b hc hb
  · exact hb

theorem runHead_event {code : BitVec 6} {req : Nat} {effect : Command → Bridge → Verdict} (he : EffectKeeps effect)
    {s : State} (h : ReferenceInv s.bridge) : ReferenceInv (s.event (runHead code req effect)).bridge :=
  event_referenceInv (runHead_keepsReferences code req he) h

/-- The row of a command acts on the part, or leaves it, and keeps every window's in-flight count true. -/
theorem exec_keepsReferences (i : Instr) (s : State) (h : ReferenceInv s.bridge) :
    ∃ t, exec i s = .next t ∧ ReferenceInv t.bridge := by
  cases i with
  | coldReset unitsel leafmgt => exact ⟨_, rfl, coldReset_referenceInv unitsel leafmgt s.bridge⟩
  | rstNRelease => exact ⟨_, rfl, releaseReset_keepsReferences s.bridge h⟩
  | rootReset f => exact ⟨_, rfl, event_ite_referenceInv (fun b _ => rootResetOf_keepsReferences b) h⟩
  | resetFlitAtLeaf f => exact ⟨_, rfl, event_ite_referenceInv (fun b _ => leafResetTaken_keepsReferences b) h⟩
  | packetReceived p f => exact ⟨_, rfl, event_ite_referenceInv (fun b _ => judgeFrame_keepsReferences p f b) h⟩
  | partnerTrainDetected p f =>
    refine ⟨_, rfl, event_referenceInv (fun b hb => ?_) h⟩
    split
    · exact takeTrain_keepsReferences p _ _ b hb
    · exact hb
  | configReceived p f =>
    refine ⟨_, rfl, event_referenceInv (fun b hb => ?_) h⟩
    split
    · exact meetConfig_keepsReferences p _ b hb
    · exact hb
  | ackReceived p f =>
    refine ⟨_, rfl, event_referenceInv (fun b hb => ?_) h⟩
    split
    · exact meetAck_keepsReferences p _ b hb
    · exact hb
  | nakReceived p f =>
    refine ⟨_, rfl, event_referenceInv (fun b hb => ?_) h⟩
    split
    · split
      · exact takeNak_keepsReferences p _ b hb
      · exact hb
    · exact hb
  | creditReceived p f =>
    refine ⟨_, rfl, event_referenceInv (fun b hb => ?_) h⟩
    split
    · split
      · exact referenceInv_of_same rfl rfl hb
      · exact hb
    · exact hb
  | parkReceived p f => exact ⟨_, rfl, event_ite_referenceInv (fun b _ => takePark_keepsReferences p b) h⟩
  | wakeReceived p f => exact ⟨_, rfl, event_ite_referenceInv (fun b _ => takeWake_keepsReferences p b) h⟩
  | idleReceived p f => exact ⟨_, rfl, h⟩
  | sweepEnds p passing =>
    exact ⟨_, rfl, event_ite_referenceInv (fun b _ => endSweep_keepsReferences p passing b) h⟩
  | attemptBoundPasses p => exact ⟨_, rfl, event_ite_referenceInv (fun b _ => failAttempt_keepsReferences p b) h⟩
  | wakeBoundPasses p => exact ⟨_, rfl, event_ite_referenceInv (fun b _ => beginTraining_keepsReferences p _ _ b) h⟩
  | parkDrainBoundPasses p => exact ⟨_, rfl, event_ite_referenceInv (fun b _ => failDrain_keepsReferences p b) h⟩
  | parkDrainCompletes p => exact ⟨_, rfl, event_ite_referenceInv (fun b _ => completePark_keepsReferences p b) h⟩
  | replayTimerExpires p => exact ⟨_, rfl, event_ite_referenceInv (fun b _ => triggerReplay_keepsReferences p b) h⟩
  | ackBoundPasses p => exact ⟨_, rfl, event_ite_referenceInv (fun _ _ hb => referenceInv_of_same rfl rfl hb) h⟩
  | creditRepeatDue p => exact ⟨_, rfl, event_ite_referenceInv (fun _ _ hb => referenceInv_of_same rfl rfl hb) h⟩
  | configRepeat p => exact ⟨_, rfl, event_ite_referenceInv (fun b _ => repeatConfig_keepsReferences p b) h⟩
  | wakeRepeat p => exact ⟨_, rfl, event_ite_referenceInv (fun _ _ hb => referenceInv_of_same rfl rfl hb) h⟩
  | arbiterDecision p => exact ⟨_, rfl, event_referenceInv (arbitrate_keepsReferences p) h⟩
  | replayResend p => exact ⟨_, rfl, event_ite_referenceInv (fun b _ => resend_keepsReferences p b) h⟩
  | ackSent p => exact ⟨_, rfl, event_ite_referenceInv (fun _ _ hb => referenceInv_of_same rfl rfl hb) h⟩
  | nakSent p => exact ⟨_, rfl, event_ite_referenceInv (fun _ _ hb => referenceInv_of_same rfl rfl hb) h⟩
  | creditFlitSent p => exact ⟨_, rfl, event_ite_referenceInv (fun _ _ hb => referenceInv_of_same rfl rfl hb) h⟩
  | takePut p => exact ⟨_, rfl, event_referenceInv (takeHead_keepsReferences p .stream _) h⟩
  | takeGetSet p => exact ⟨_, rfl, event_referenceInv (takeHead_keepsReferences p .query _) h⟩
  | takeManage p => exact ⟨_, rfl, event_referenceInv (takeHead_keepsReferences p .query _) h⟩
  | managementBypass p =>
    refine ⟨_, rfl, event_referenceInv (fun b hb => ?_) h⟩
    split
    · exact hb
    · exact takeAt_keepsReferences p .query _ b hb
  | takeSignal => exact ⟨_, rfl, event_referenceInv (takeHead_keepsReferences .leaf .stream _) h⟩
  | takeReply p => exact ⟨_, rfl, event_referenceInv (takeHead_keepsReferences p .reply _) h⟩
  | takeMalformed p c =>
    refine ⟨_, rfl, event_referenceInv (fun b hb => ?_) h⟩
    split
    · exact hb
    split
    · exact takeAt_keepsReferences p c 0 b hb
    · exact hb
  | deadlinePasses d e => exact ⟨_, rfl, event_ite_referenceInv (fun b _ => passDeadline_keepsReferences d e b) h⟩
  | quarantineEndPasses d e =>
    exact ⟨_, rfl, event_ite_referenceInv (fun _ hc hb => passQuarantine_referenceInv hb hc.1) h⟩
  | returningDonePushed d e => exact ⟨_, rfl, event_ite_referenceInv (fun b _ => pushOwed_keepsReferences d e b) h⟩
  | notificationAdmitted =>
    refine ⟨_, rfl, event_referenceInv (fun b hb => ?_) h⟩
    split
    · exact hb
    split
    · exact referenceInv_of_pushKeeps (admitLine_keeps _ b) hb
    · exact hb
  | managementReplyAdmitted p =>
    exact ⟨_, rfl, event_ite_referenceInv (fun b _ => referenceInv_of_pushKeeps (admitReply_keeps p b)) h⟩
  | unknownCommand => exact ⟨_, rfl, event_referenceInv runUnknown_keepsReferences h⟩
  | identify => exact ⟨_, rfl, runHead_event (effect := identifyEffect) (fun _ _ hb => hb) h⟩
  | accessSet => exact ⟨_, rfl, runHead_event accessSet_keeps h⟩
  | portStatus => exact ⟨_, rfl, runHead_event portStatus_keeps h⟩
  | linkSet => exact ⟨_, rfl, runHead_event linkSet_keeps h⟩
  | linkRetrain => exact ⟨_, rfl, runHead_event linkRetrain_keeps h⟩
  | linkPark => exact ⟨_, rfl, runHead_event linkPark_keeps h⟩
  | linkWake => exact ⟨_, rfl, runHead_event linkWake_keeps h⟩
  | laneRead => exact ⟨_, rfl, runHead_event laneRead_keeps h⟩
  | bufferPlanSet => exact ⟨_, rfl, runHead_event bufferPlanSet_keeps h⟩
  | arbiterSet => exact ⟨_, rfl, runHead_event arbiterSet_keeps h⟩
  | windowLoad => exact ⟨_, rfl, runHead_event windowLoad_keeps h⟩
  | windowActivate => exact ⟨_, rfl, runHead_event windowActivate_keeps h⟩
  | windowRetire => exact ⟨_, rfl, runHead_event windowRetire_keeps h⟩
  | windowDiscard => exact ⟨_, rfl, runHead_event windowDiscard_keeps h⟩
  | windowRead => exact ⟨_, rfl, runHead_event windowRead_keeps h⟩
  | groupSet => exact ⟨_, rfl, runHead_event groupSet_keeps h⟩
  | groupRead => exact ⟨_, rfl, runHead_event groupRead_keeps h⟩
  | missPolicySet => exact ⟨_, rfl, runHead_event missPolicySet_keeps h⟩
  | timerSet => exact ⟨_, rfl, runHead_event timerSet_keeps h⟩
  | queryRead => exact ⟨_, rfl, runHead_event queryRead_keeps h⟩
  | querySummary => exact ⟨_, rfl, runHead_event (effect := querySummaryEffect) (fun _ _ hb => hb) h⟩
  | signalConfig => exact ⟨_, rfl, runHead_event signalConfig_keeps h⟩
  | signalMask => exact ⟨_, rfl, runHead_event signalMask_keeps h⟩
  | signalServiced => exact ⟨_, rfl, runHead_event signalServiced_keeps h⟩
  | signalRead => exact ⟨_, rfl, runHead_event signalRead_keeps h⟩
  | captureRead => exact ⟨_, rfl, runHead_event captureRead_keeps h⟩
  | captureClear => exact ⟨_, rfl, runHead_event captureClear_keeps h⟩

/-- Settles O59: a step is one µs of the time base, or the front command's row. -/
theorem stepKeepsReferences : Obligations.StepKeepsReferences := by
  unfold Obligations.StepKeepsReferences
  intro s t h hstep
  unfold step at hstep
  split at hstep
  · cases hstep
    exact tick_keepsReferences s.bridge h
  · next c rest _ =>
    obtain ⟨u, hexec, hu⟩ := exec_keepsReferences c { s with pending := rest } h
    rw [hexec] at hstep
    cases hstep
    exact hu

end Sys2Proof.WindowReferences
end

section
/-! The Window Table (O29, O38, O42, O43, O3): lookup, release of a reference, the window commands, groups and miss
policies, and the cold values. The facts about the model's functions come first, each statement after those it uses. -/

namespace Sys2Proof.WindowTable

open Sys2Proof.Machine Sys2Proof.Safety Sys2Proof.Laws

/-! ### Lookup -/

/-- A search in number order answers the lowest number that passes. -/
theorem find?_finRange_eq_some_iff {n : Nat} (p : Fin n → Bool) (i : Fin n) :
    (List.finRange n).find? p = some i ↔ p i = true ∧ ∀ j, p j = true → i ≤ j := by
  rw [List.find?_eq_some_iff_getElem]
  refine and_congr_right fun hi => ⟨?_, fun hlow => ?_⟩
  · rintro ⟨m, hm, rfl, hbelow⟩ j hj
    refine Fin.not_lt.mp fun hlt => ?_
    have hjm : j.val < m := by simpa only [Fin.lt_def, List.getElem_finRange, Fin.cast_mk] using hlt
    have hfails : p j = false := by
      simpa only [List.getElem_finRange, Fin.cast_mk, Fin.eta, Bool.not_eq_true'] using hbelow j.val hjm
    rw [hj] at hfails
    cases hfails
  · refine ⟨i.val, by rw [List.length_finRange]; exact i.isLt, List.getElem_finRange _, fun j hj => ?_⟩
    rw [List.getElem_finRange, Bool.not_eq_true', ← Bool.not_eq_true]
    intro hpass
    exact Nat.not_lt.mpr (Fin.le_def.mp (hlow _ hpass)) hj

theorem slot_hits_iff (x : Slot) (d : Dir) (a : Addr) :
    x.hits d a = true ↔ x.state = .live ∧ x.window.direction = d ∧ x.window.base.toNat ≤ a.toNat ∧
      a.toNat < x.window.base.toNat + 2 ^ x.window.sizeExp.toNat := by
  simp [Slot.hits, WindowRecord.holds, and_assoc]

theorem lookup_eq_some_iff (b : Bridge) (d : Dir) (a : Addr) (i : Fin 32) :
    b.lookup d a = some i ↔ (b.slot i).hits d a = true ∧ ∀ j, (b.slot j).hits d a = true → i ≤ j :=
  find?_finRange_eq_some_iff (fun j => (b.slot j).hits d a) i

theorem lookup_eq_none_iff (b : Bridge) (d : Dir) (a : Addr) :
    b.lookup d a = none ↔ ∀ i, ¬(b.slot i).hits d a = true := by
  simp [Bridge.lookup]

theorem translate_of_none {w : WindowRecord} (a : Addr) (h : w.translation = none) : w.translate a = a := by
  simp [WindowRecord.translate, h]

theorem translate_of_some {w : WindowRecord} {t : Addr} (a : Addr) (h : w.translation = some t) :
    w.translate a = t + (a - w.base) := by
  simp [WindowRecord.translate, h]

/-- The ports of a direction (01 R2, 04 R62). -/
theorem dir_ports (p : Port) : p.dir.requesterPort = p ∧ p.dir.farPort = p.other ∧ p.replyTable = p.other.dir := by
  cases p <;> exact ⟨rfl, rfl, rfl⟩

/-- Settles O29: a lookup is the first hit in number order. -/
theorem lookupTakesLowestSlot : Obligations.LookupTakesLowestSlot := by
  unfold Obligations.LookupTakesLowestSlot
  refine ⟨⟨rfl, rfl, rfl, rfl, dir_ports⟩, fun b d a => ⟨fun i => ?_, ?_, fun _ => translate_of_none a,
    fun _ _ => translate_of_some a, fun _ _ => rfl⟩⟩
  · simp only [lookup_eq_some_iff, slot_hits_iff]
  · simp only [lookup_eq_none_iff, slot_hits_iff]

/-! ### The release of a reference -/

theorem retires_iff (d : Deferred) (i : Fin 32) : d.retires i = true ↔ d.op = .retire i := by
  unfold Deferred.retires
  cases d.op <;> simp

theorem freeEntry_of_no_slot {b : Bridge} {d : Dir} {e : Fin 64} (h : (b.entry d e).slot = none) :
    freeEntry d e b = b.setEntry d e Entry.free := by
  simp [freeEntry, h]

theorem freeEntry_of_slot {b : Bridge} {d : Dir} {e : Fin 64} {i : Fin 32} (h : (b.entry d e).slot = some i) :
    freeEntry d e b = releaseSlot i (b.setEntry d e Entry.free) := by
  simp [freeEntry, h]

/-- A release that is not the last of a drain (02 R31). -/
theorem releaseSlot_keeps_drain {b : Bridge} {i : Fin 32}
    (h : (b.slot i).state ≠ .draining ∨ (b.slot i).inflight ≠ 1) :
    releaseSlot i b = b.setSlot i { b.slot i with inflight := (b.slot i).inflight - 1 } := by
  have hlast : ¬((b.slot i).state = .draining ∧ (b.slot i).inflight = 1) := fun ⟨hst, hone⟩ =>
    h.elim (fun k => k hst) fun k => k hone
  simp [releaseSlot, hlast]

/-- The last release of a drain frees the slot (02 R22). -/
theorem releaseSlot_ends_drain {b : Bridge} {i : Fin 32} (hst : (b.slot i).state = .draining)
    (hone : (b.slot i).inflight = 1) : releaseSlot i b = answerRetire i (b.setSlot i Slot.free) := by
  simp [releaseSlot, hst, hone]

theorem answerRetire_of_none {b : Bridge} {i : Fin 32} (h : b.engine.deferred.find? (·.retires i) = none) :
    answerRetire i b = b := by
  simp [answerRetire, h]

theorem answerRetire_of_listed {b : Bridge} {i : Fin 32} {c : Deferred}
    (h : b.engine.deferred.find? (·.retires i) = some c) :
    answerRetire i b = deliver (c.reply b.unit .ok [])
      (b.onEngine fun e => { e with deferred := e.deferred.eraseP (·.retires i) }) := by
  simp [answerRetire, h]

/-- The reply of a listed WINDOW_RETIRE (10 R171, Table 10-4). -/
theorem reply_of_retire {c : Deferred} {i : Fin 32} (h : c.op = .retire i) (unit : UnitNo) :
    c.reply unit .ok [] = { port := c.port, pkt := replyPacket unit c.src c.tag 26 .ok [], immediate := false } := by
  simp [Deferred.reply, h, DeferredOp.code]

/-- Settles O38: by the entry's window slot, and there by whether the release is the last of a drain. -/
theorem freedEntryReleasesWindow : Obligations.FreedEntryReleasesWindow := by
  unfold Obligations.FreedEntryReleasesWindow
  refine ⟨⟨rfl, rfl⟩, retires_iff, fun d e b => ⟨freeEntry_of_no_slot, fun i hslot => ?_⟩⟩
  rw [freeEntry_of_slot hslot]
  refine ⟨fun hmore => ?_, fun hst hone hnone => ?_, fun c hst hone hlisted hop => ?_⟩
  · exact releaseSlot_keeps_drain hmore
  · exact (releaseSlot_ends_drain (b := b.setEntry d e Entry.free) hst hone).trans (answerRetire_of_none hnone)
  · rw [← reply_of_retire hop]
    exact (releaseSlot_ends_drain (b := b.setEntry d e Entry.free) hst hone).trans (answerRetire_of_listed hlisted)

/-! ### The operands of WINDOW_LOAD -/

theorem toNat_append_byte {n : Nat} (x : BitVec n) (y : Byte) : (x ++ y).toNat = x.toNat * 256 + y.toNat := by
  rw [BitVec.toNat_append, ← Nat.shiftLeft_add_eq_or_of_lt y.isLt, Nat.shiftLeft_eq]

/-- A 48-bit operand is its six bytes, bits 47–40 first (00 section 7, Numbers). -/
theorem command_addr_toNat (c : Command) (i : Nat) : (c.addr i).toNat =
    (((c.num i * 256 + c.num (i + 1)) * 256 + c.num (i + 2)) * 256 + c.num (i + 3)) * 256 ^ 2 + c.num (i + 4) * 256 +
      c.num (i + 5) := by
  simp only [Command.addr, addrOf, toNat_append_byte, Command.num]
  omega

theorem loadSlot_eq {c : Command} {i : Fin 32} (h : c.num 0 % 32 = i.val) : c.loadSlot = i := Fin.ext h

theorem slot?_eq {c : Command} {i : Fin 32} (h : c.num 0 = i.val) : c.slot? = some i := by
  rw [Command.slot?, h, index?_val]

theorem slot?_none {c : Command} (h : 32 ≤ c.num 0) : c.slot? = none := index?_none h

/-- What the direction and target flags of WINDOW_LOAD decide (02 Table 2-2). -/
theorem command_window_flags (c : Command) :
    (c.window.direction = .up ↔ (c.byte 2).getLsbD 0 = true) ∧
      ((c.byte 2).getLsbD 5 = false → c.window.translation = none) ∧
      ((c.byte 2).getLsbD 5 = true → c.window.translation = some (c.addr 12)) := by
  refine ⟨?_, fun h => if_neg (by simp only [h, Bool.false_eq_true, not_false_eq_true]), fun h => if_pos h⟩
  simp [Command.window]

/-! ### The activation checks -/

theorem aligned_iff (a : Addr) (n : Nat) : aligned a n = true ↔ 2 ^ n ∣ a.toNat := by
  simp [aligned, Nat.dvd_iff_mod_eq_zero]

theorem activates_iff (w : WindowRecord) : w.activates = true ↔
    12 ≤ w.sizeExp.toNat ∧ w.sizeExp.toNat ≤ 48 ∧ 2 ^ w.sizeExp.toNat ∣ w.base.toNat ∧
      (w.sizeExp.toNat = 48 → w.base = 0) ∧
      ∀ t, w.translation = some t → 2 ^ w.sizeExp.toNat ∣ t.toNat ∧ (w.sizeExp.toNat = 48 → t = 0) := by
  unfold WindowRecord.activates
  cases w.translation with
  | none => simp [aligned_iff, and_assoc, Decidable.imp_iff_not_or]
  | some t =>
    simp only [Option.some.injEq, forall_eq']
    simp [aligned_iff, and_assoc, Decidable.imp_iff_not_or]

/-! ### The rows of the window commands -/

/-- The row of a command whose head is ready gives its effect's outcome (10 R164). -/
theorem exec_of_effect {row : Instr} {s : State} {c : Command} {code : BitVec 6} {req : Nat}
    {effect : Command → Bridge → Verdict} {v : Verdict} (hready : HeadReady s code req c)
    (hrow : exec row s = .next (s.event (runHead code req effect))) (hv : effect c s.bridge = v) :
    exec row s = .next { s with bridge := v.settle c } := by
  rw [hrow, event_runHead_ready hready, hv]

theorem windowLoad_writes {c : Command} {b : Bridge}
    (h : (b.slot c.loadSlot).state = .free ∨ (b.slot c.loadSlot).state = .staged) :
    windowLoadEffect c b = done [] (b.setSlot c.loadSlot { state := .staged, window := c.window, inflight := 0 }) := by
  unfold windowLoadEffect
  rcases h with h | h <;> rw [h]

theorem windowLoad_state {c : Command} {b : Bridge}
    (h : (b.slot c.loadSlot).state = .live ∨ (b.slot c.loadSlot).state = .draining) :
    windowLoadEffect c b = refuse .state b := by
  unfold windowLoadEffect
  rcases h with h | h <;> rw [h]

theorem deferredRoom_iff (e : Engine) : e.deferredRoom = true ↔ e.deferred.length < 4 :=
  decide_eq_true_iff

section
variable {c : Command} {b : Bridge} {i : Fin 32} (hi : c.slot? = some i)
include hi

theorem windowActivate_staged (hst : (b.slot i).state = .staged) : windowActivateEffect c b =
    if (b.slot i).window.activates then done [] (b.setSlot i { b.slot i with state := .live })
    else refuse .range b := by
  simp [windowActivateEffect, hi, hst]

theorem windowActivate_state (hst : (b.slot i).state ≠ .staged) : windowActivateEffect c b = refuse .state b := by
  cases h : (b.slot i).state <;> simp_all [windowActivateEffect]

theorem windowRetire_idle (hst : (b.slot i).state = .live) (hnone : (b.slot i).inflight = 0) :
    windowRetireEffect c b = done [] (b.setSlot i Slot.free) := by
  simp [windowRetireEffect, hi, hst, hnone]

theorem windowRetire_used (hst : (b.slot i).state = .live) (hsome : 0 < (b.slot i).inflight) :
    windowRetireEffect c b =
      if b.engine.deferredRoom then .defer (.retire i) (b.setSlot i { b.slot i with state := .draining })
      else refuse .busy b := by
  simp [windowRetireEffect, hi, hst, Nat.pos_iff_ne_zero.mp hsome]

theorem windowRetire_state (hst : (b.slot i).state ≠ .live) : windowRetireEffect c b = refuse .state b := by
  cases h : (b.slot i).state <;> simp_all [windowRetireEffect]

theorem windowDiscard_eq : windowDiscardEffect c b =
    if (b.slot i).state = .staged then done [] (b.setSlot i Slot.free) else refuse .state b := by
  simp [windowDiscardEffect, hi]

end

/-- A slot number of 32–255 is out of range for the commands that name a slot in a whole byte (02 R17). -/
theorem windowCommands_range {c : Command} (h : c.slot? = none) (b : Bridge) :
    windowActivateEffect c b = refuse .range b ∧ windowRetireEffect c b = refuse .range b ∧
      windowDiscardEffect c b = refuse .range b := by
  simp [windowActivateEffect, windowRetireEffect, windowDiscardEffect, h]

/-- Settles O42: the layout, the checks, and each row by the state of its slot. -/
theorem windowCommandsByState : Obligations.WindowCommandsByState := by
  unfold Obligations.WindowCommandsByState
  refine ⟨fun _ _ => ⟨rfl, rfl⟩, fun c => ?_, activates_iff, fun s c i => ⟨fun hready hnum => ?_,
    fun hready hnum => ?_, fun hready hnum => ?_, fun hready hnum => ?_, fun hnum => ?_⟩⟩
  · obtain ⟨hdir, hown, hmoved⟩ := command_window_flags c
    exact ⟨hdir, rfl, rfl, rfl, rfl, rfl, rfl, command_addr_toNat c 6, hown,
      fun h => ⟨_, hmoved h, command_addr_toNat c 12⟩⟩
  · have hi := loadSlot_eq hnum
    subst hi
    exact ⟨fun hst => exec_of_effect hready rfl (windowLoad_writes hst),
      fun hst => exec_of_effect hready rfl (windowLoad_state hst)⟩
  · have hi := slot?_eq hnum
    refine ⟨fun hst hpass => ?_, fun hst hfail => ?_, fun hst => ?_⟩
    · exact exec_of_effect hready rfl ((windowActivate_staged hi hst).trans (if_pos hpass))
    · exact exec_of_effect hready rfl ((windowActivate_staged hi hst).trans (if_neg (by simp [hfail])))
    · exact exec_of_effect hready rfl (windowActivate_state hi hst)
  · have hi := slot?_eq hnum
    refine ⟨fun hst hnone => ?_, fun hst hsome hroom => ?_, fun hst hsome hfull => ?_, fun hst => ?_⟩
    · exact exec_of_effect hready rfl (windowRetire_idle hi hst hnone)
    · have hfits := (deferredRoom_iff s.bridge.engine).mpr hroom
      exact exec_of_effect hready rfl ((windowRetire_used hi hst hsome).trans (if_pos hfits))
    · have hnot : ¬s.bridge.engine.deferredRoom = true := by rw [deferredRoom_iff]; exact Nat.not_lt.mpr hfull
      exact exec_of_effect hready rfl ((windowRetire_used hi hst hsome).trans (if_neg hnot))
    · exact exec_of_effect hready rfl (windowRetire_state hi hst)
  · have hi := slot?_eq hnum
    exact ⟨fun hst => exec_of_effect hready rfl ((windowDiscard_eq hi).trans (if_pos hst)),
      fun hst => exec_of_effect hready rfl ((windowDiscard_eq hi).trans (if_neg hst))⟩
  · obtain ⟨hactivate, hretire, hdiscard⟩ := windowCommands_range (slot?_none hnum) s.bridge
    exact ⟨fun hready => exec_of_effect hready rfl hactivate, fun hready => exec_of_effect hready rfl hretire,
      fun hready => exec_of_effect hready rfl hdiscard⟩

/-! ### Groups and miss policies -/

/-- Unit `u` is bit `u` mod 8 of the member byte it falls in (02 Table 2-5). -/
theorem members_getLsbD (c : Command) {u : Nat} (h : u < 32) :
    c.members.getLsbD u = (c.byte (1 + u / 8)).getLsbD (u % 8) := by
  have hbyte : u / 8 = 0 ∨ u / 8 = 1 ∨ u / 8 = 2 ∨ u / 8 = 3 := by omega
  simp only [Command.members, BitVec.getLsbD_append]
  rcases hbyte with hq | hq | hq | hq <;> rw [hq]
  · rw [if_pos (by omega), show u % 8 = u by omega]
  · rw [if_neg (by omega), if_pos (by omega), show u - 8 = u % 8 by omega]
  · rw [if_neg (by omega), if_neg (by omega), if_pos (by omega), show u - 8 - 8 = u % 8 by omega]
  · rw [if_neg (by omega), if_neg (by omega), if_neg (by omega), show u - 8 - 8 - 8 = u % 8 by omega]

theorem groupSet_of_lt {c : Command} {g : Fin 8} (h : c.num 0 = g.val) (b : Bridge) :
    groupSetEffect c b = done [] { b with groups := b.groups.set g c.members } := by
  simp [groupSetEffect, h, index?_val]

theorem groupSet_range {c : Command} (h : 8 ≤ c.num 0) (b : Bridge) : groupSetEffect c b = refuse .range b := by
  simp [groupSetEffect, index?_none h]

/-- A miss policy operand of 0–3: a policy, or the present one for 3 (02 R38). -/
theorem policyGiven_of_le {v : Nat} (h : v ≤ 3) : ∃ g, policyGiven v = some g ∧ ∀ now, g.getD now =
    if v = 0 then MissPolicy.pass else if v = 1 then .reflect else if v = 2 then .reject else now := by
  match v, h with
  | 0, _ => exact ⟨_, rfl, fun _ => rfl⟩
  | 1, _ => exact ⟨_, rfl, fun _ => rfl⟩
  | 2, _ => exact ⟨_, rfl, fun _ => rfl⟩
  | 3, _ => exact ⟨_, rfl, fun _ => rfl⟩

theorem policyGiven_none {v : Nat} (h : 4 ≤ v) : policyGiven v = none := by
  match v, h with
  | v + 4, _ => rfl

theorem missPolicySet_of_given {c : Command} {d u : Option MissPolicy} (hd : policyGiven (c.num 0) = some d)
    (hu : policyGiven (c.num 1) = some u) (b : Bridge) : missPolicySetEffect c b =
      done [(d.getD b.miss.down).code, (u.getD b.miss.up).code]
        { b with miss := { down := d.getD b.miss.down, up := u.getD b.miss.up } } := by
  simp [missPolicySetEffect, hd, hu]

theorem missPolicySet_range {c : Command} (h : 4 ≤ c.num 0 ∨ 4 ≤ c.num 1) (b : Bridge) :
    missPolicySetEffect c b = refuse .range b := by
  unfold missPolicySetEffect
  rcases h with h | h
  · rw [policyGiven_none h]
  · rw [policyGiven_none h]
    cases policyGiven (c.num 0) <;> rfl

/-- Settles O43: each row writes what its operands name, or refuses them. -/
theorem groupAndMissSettings : Obligations.GroupAndMissSettings := by
  unfold Obligations.GroupAndMissSettings
  refine ⟨fun s c hready => ⟨fun g hg => ?_, fun hrange => ?_⟩, fun s c hready => ⟨fun hd hu => ?_, fun hrange => ?_⟩⟩
  · refine ⟨s.bridge.groups.set g c.members, exec_of_effect hready rfl (groupSet_of_lt hg s.bridge), fun u hu => ?_,
      fun g' hne => ?_⟩
    · simpa using members_getLsbD c hu
    · have hval : g.val ≠ g'.val := fun h => hne (Fin.ext h.symm)
      simp [Vector.getElem_set_ne, hval]
  · exact exec_of_effect hready rfl (groupSet_range hrange s.bridge)
  · obtain ⟨d, hdown, hgivenDown⟩ := policyGiven_of_le hd
    obtain ⟨u, hup, hgivenUp⟩ := policyGiven_of_le hu
    simp only [← hgivenDown, ← hgivenUp]
    exact exec_of_effect hready rfl (missPolicySet_of_given hdown hup s.bridge)
  · exact exec_of_effect hready rfl (missPolicySet_range hrange s.bridge)

/-! ### The cold values -/

theorem coldGroups_get (g : Fin 8) : coldGroups[g] = if g = 0 then BitVec.allOnes 32 else 0 := by
  revert g
  decide

theorem cold_classes (c : Cls) :
    Ingress.cold.pools.get c = [] ∧ Ingress.cold.account.get c = RxAccount.zero ∧
      (PerClass.all SendAccount.zero).get c = SendAccount.zero ∧ Egress.cold.queues.get c = [] := by
  cases c <;> exact ⟨rfl, rfl, rfl, rfl⟩

/-- Settles O3: the cold values, table by table and port by port. -/
theorem coldResetRestoresColdValues : Obligations.ColdResetRestoresColdValues := by
  unfold Obligations.ColdResetRestoresColdValues
  intro u open_ s
  have hentry : ∀ d e, (coldResetOf u open_ s.bridge).entry d e = Entry.free := by
    intro d e
    cases d <;> exact Vector.getElem_replicate ..
  refine ⟨_, rfl, rfl, fun i => Vector.getElem_replicate .., coldGroups_get, rfl, hentry, rfl, rfl, rfl, rfl, rfl, rfl,
    rfl, rfl, fun i => Vector.getElem_replicate .., fun p => ?_⟩
  cases p <;> exact ⟨rfl, fun i => Vector.getElem_replicate .., cold_classes, rfl, rfl, rfl, rfl, rfl, rfl, rfl⟩

end Sys2Proof.WindowTable
end

section
/-! What a push adds (used by O31): queues, captured records and waiting replies only grow, and a LINK_PARK drain of a
port that is not DOWN either goes on or is answered BUSY. The facts follow the operations of Machine/Ops.lean in their
order, from an admission to two packets pushed in one event. -/

namespace Sys2Proof.PushedPackets

open Sys2Proof.Machine Sys2Proof.Safety Sys2Proof.Laws

/-! ### What an admission and a record write -/

/-- How a packet stands in its queue once it is admitted: with its port's next arrival stamp (05 R88). -/
def admitted (x : Push) (b : Bridge) : Queued :=
  { pkt := x.pkt, stamp := (b.port x.port).egress.admissions, mark := x.mark }

theorem queue_startWake (b : Bridge) (p q : Port) (c : Cls) : (b.startWake p).queue q c = b.queue q c := by
  cases p <;> cases q <;> rfl

theorem queue_enqueue_self (b : Bridge) (x : Push) :
    (b.enqueue x).queue x.port x.cls = b.queue x.port x.cls ++ [admitted x b] := by
  simp [Bridge.enqueue, Bridge.queue, admitted]

theorem queue_enqueue_other (b : Bridge) (x : Push) {q : Port} {c : Cls} (h : ¬(q = x.port ∧ c = x.cls)) :
    (b.enqueue x).queue q c = b.queue q c := by
  by_cases hq : q = x.port
  · have hc : c ≠ x.cls := fun hc => h ⟨hq, hc⟩
    subst hq
    simp [Bridge.enqueue, Bridge.queue, hc]
  · simp [Bridge.enqueue, Bridge.queue, hq]

theorem queue_place (b : Bridge) (x : Push) (q : Port) (c : Cls) : (b.place x).queue q c = (b.enqueue x).queue q c := by
  unfold Bridge.place
  dsimp only
  split
  · exact queue_startWake _ _ _ _
  · rfl

theorem queue_place_self (b : Bridge) (x : Push) :
    (b.place x).queue x.port x.cls = b.queue x.port x.cls ++ [admitted x b] :=
  (queue_place ..).trans (queue_enqueue_self b x)

theorem queue_place_other (b : Bridge) (x : Push) {q : Port} {c : Cls} (h : ¬(q = x.port ∧ c = x.cls)) :
    (b.place x).queue q c = b.queue q c :=
  (queue_place ..).trans (queue_enqueue_other b x h)

/-- An admission leaves the other port as it is. -/
theorem port_place_other (b : Bridge) (x : Push) {q : Port} (h : q ≠ x.port) : (b.place x).port q = b.port q := by
  unfold Bridge.place
  dsimp only
  split <;> simp [Bridge.startWake, Bridge.emitInUse, Bridge.enqueue, h]

theorem place_engine_capture (b : Bridge) (x : Push) :
    (b.place x).engine = b.engine ∧ (b.place x).capture = b.capture ∧ (b.place x).overflowed = b.overflowed := by
  unfold Bridge.place
  dsimp only
  split <;> exact ⟨rfl, rfl, rfl⟩

/-- A record enters as the newest, or the overflowed flag is set in a full queue (11 R179). -/
theorem enterRecord_cases (b : Bridge) (r : Record) :
    ((b.enterRecord r).capture = b.capture ++ [r] ∧ (b.enterRecord r).overflowed = b.overflowed) ∨
      (16 ≤ b.capture.length ∧ (b.enterRecord r).capture = b.capture ∧ (b.enterRecord r).overflowed = true) := by
  by_cases h : b.capture.length < Config.capturePlaces
  · exact .inl (by simp [Bridge.enterRecord, h])
  · exact .inr ⟨Nat.not_lt.mp h, by simp [Bridge.enterRecord, h], by simp [Bridge.enterRecord, h]⟩

theorem enterRecord_ports_engine (b : Bridge) (r : Record) :
    (b.enterRecord r).ports = b.ports ∧ (b.enterRecord r).engine = b.engine := by
  unfold Bridge.enterRecord
  dsimp only
  split <;> exact ⟨rfl, rfl⟩

/-- The drain of another port is not touched where one port's is erased. -/
theorem filter_parks_eraseP {p q : Port} (h : q ≠ p) (ds : List Deferred) :
    (ds.eraseP (·.parks p)).filter (·.parks q) = ds.filter (·.parks q) := by
  induction ds with
  | nil => rfl
  | cons d ds ih =>
    by_cases hp : d.parks p = true
    · have hq : d.parks q = false := by
        unfold Deferred.parks at hp ⊢
        split at hp
        · exact beq_false_of_ne fun hrq => h (hrq.symm.trans (eq_of_beq hp))
        · cases hp
      simp [hp, hq]
    · rw [List.eraseP_cons_of_neg (p := fun x : Deferred => x.parks p) hp, List.filter_cons, List.filter_cons, ih]

/-- Erasing the first element that passes leaves the others that pass. -/
theorem filter_eraseP_self {α : Type} (p : α → Bool) (l : List α) : (l.eraseP p).filter p = (l.filter p).tail := by
  induction l with
  | nil => rfl
  | cons a l ih => by_cases h : p a = true <;> simp [h, ih]

/-! ### What pushes add -/

/-- What no push takes away: packets stay in their queues, records in the capture queue, replies in the engine, and the
queues of a DOWN port stay as they are; deferred commands only leave. -/
structure PushAdds (b t : Bridge) : Prop where
  keeps : PushKeeps b t
  queue : ∀ q c, b.queue q c <+: t.queue q c
  down : ∀ q, b.isDown q = true → ∀ c, t.queue q c = b.queue q c
  capture : b.capture <+: t.capture
  overflowed : b.overflowed = true → t.overflowed = true
  waiting : b.engine.waiting <+: t.engine.waiting
  deferred : t.engine.deferred.Sublist b.engine.deferred

theorem PushAdds.trans {a b c : Bridge} (h : PushAdds a b) (k : PushAdds b c) : PushAdds a c where
  keeps := h.keeps.trans k.keeps
  queue q cls := (h.queue q cls).trans (k.queue q cls)
  down q hq cls := (k.down q ((h.keeps.isDown q).trans hq) cls).trans (h.down q hq cls)
  capture := h.capture.trans k.capture
  overflowed hover := k.overflowed (h.overflowed hover)
  waiting := h.waiting.trans k.waiting
  deferred := k.deferred.trans h.deferred

/-- Where queues and capture queue are kept, only the engine's lists are to be looked at. -/
theorem PushAdds.of_engine {b t : Bridge} (hkeeps : PushKeeps b t) (hports : t.ports = b.ports)
    (hcapture : t.capture = b.capture) (hover : t.overflowed = b.overflowed)
    (hwaiting : b.engine.waiting <+: t.engine.waiting) (hdeferred : t.engine.deferred.Sublist b.engine.deferred) :
    PushAdds b t := by
  have hqueue (q : Port) (c : Cls) : t.queue q c = b.queue q c := by rw [Bridge.queue, Bridge.port, hports]; rfl
  exact ⟨hkeeps, fun q c => hqueue q c ▸ List.prefix_rfl, fun q _ c => hqueue q c,
    hcapture ▸ List.prefix_rfl, fun h => hover.trans h, hwaiting, hdeferred⟩

theorem PushAdds.refl (b : Bridge) : PushAdds b b :=
  .of_engine (PushKeeps.refl b) rfl rfl rfl (List.prefix_refl _) (List.Sublist.refl _)

theorem PushAdds.noDrain {b t : Bridge} (h : PushAdds b t) {q : Port} (hno : noDrain b q) : noDrain t q :=
  List.find?_eq_none.mpr fun d hd => List.find?_eq_none.mp hno d (h.deferred.subset hd)

theorem PushAdds.recordRaised_before {a b t : Bridge} (h : PushAdds a b) {r : Record} (hr : RecordRaised b t r) :
    RecordRaised a t r := by
  obtain ⟨older, hb⟩ := h.capture
  obtain ⟨new, ht, hin⟩ := hr
  exact ⟨older ++ new, by rw [ht, ← hb, List.append_assoc], hin.imp_left (List.mem_append_right _)⟩

theorem PushAdds.recordRaised_after {a b t : Bridge} (h : PushAdds b t) {r : Record} (hr : RecordRaised a b r) :
    RecordRaised a t r := by
  obtain ⟨newer, ht⟩ := h.capture
  obtain ⟨new, hb, hin⟩ := hr
  refine ⟨new ++ newer, by rw [← ht, hb, List.append_assoc], hin.imp (List.mem_append_left _) fun ⟨hfull, hover⟩ =>
    ⟨Nat.le_trans hfull h.capture.length_le, h.overflowed hover⟩⟩

theorem PushAdds.replyGiven_before {a b t : Bridge} (h : PushAdds a b) {r : MgmtReply} (hr : ReplyGiven b t r) :
    ReplyGiven a t r :=
  hr.imp_right (Or.imp_right (And.imp_right h.recordRaised_before))

theorem PushAdds.replyGiven_after {a b t : Bridge} (h : PushAdds b t) {r : MgmtReply} (hr : ReplyGiven a b r) :
    ReplyGiven a t r := by
  rcases hr with ⟨x, hx, hpkt⟩ | hwaits | ⟨hdown, hlost⟩
  · exact .inl ⟨x, (h.queue _ _).subset hx, hpkt⟩
  · exact .inr (.inl (h.waiting.subset hwaits))
  · refine .inr (.inr ⟨(h.keeps.isDown _).trans hdown, ?_⟩)
    rw [h.keeps.timeBase]
    exact h.recordRaised_after hlost

/-- The drain of a port has failed: none is listed any more, and its BUSY was given (08 R142). -/
def DrainFailed (b t : Bridge) (q : Port) (d : Deferred) : Prop :=
  noDrain t q ∧ ReplyGiven b t (d.reply b.unit .busy [])

/-- A port's one drain goes on, or has failed. -/
def DrainsSettle (b t : Bridge) : Prop :=
  ∀ q d, b.engine.deferred.filter (·.parks q) = [d] →
    t.engine.deferred.filter (·.parks q) = [d] ∨ DrainFailed b t q d

theorem DrainsSettle.of_deferred {b t : Bridge} (h : t.engine.deferred = b.engine.deferred) : DrainsSettle b t :=
  fun _ _ hd => .inl (h ▸ hd)

/-- All that a push, and what it brings about, can do. -/
structure PushEffects (b t : Bridge) : Prop where
  adds : PushAdds b t
  drains : DrainsSettle b t

theorem DrainFailed.before {a b t : Bridge} (h : PushAdds a b) {q : Port} {d : Deferred} (hf : DrainFailed b t q d) :
    DrainFailed a t q d := by
  refine ⟨hf.1, h.replyGiven_before ?_⟩
  rw [← h.keeps.unit]
  exact hf.2

theorem DrainFailed.after {a b t : Bridge} (h : PushAdds b t) {q : Port} {d : Deferred} (hf : DrainFailed a b q d) :
    DrainFailed a t q d :=
  ⟨h.noDrain hf.1, h.replyGiven_after hf.2⟩

theorem PushEffects.trans {a b c : Bridge} (h : PushEffects a b) (k : PushEffects b c) : PushEffects a c := by
  refine ⟨h.adds.trans k.adds, fun q d hd => ?_⟩
  rcases h.drains q d hd with hlisted | hfailed
  · exact (k.drains q d hlisted).imp_right (.before h.adds)
  · exact .inr (hfailed.after k.adds)

theorem PushEffects.refl (b : Bridge) : PushEffects b b := ⟨.refl b, .of_deferred rfl⟩

theorem setLine_effects (b : Bridge) (i : Fin 64) (l : Line) : PushEffects b (b.setLine i l) :=
  ⟨.of_engine (setLine_keeps b i l) rfl rfl rfl (List.prefix_refl _) (List.Sublist.refl _), .of_deferred rfl⟩

/-- Only the command queue changed. -/
theorem onCommands_effects (b : Bridge) (queue : Engine → List Command) :
    PushEffects b (b.onEngine fun e => { e with queue := queue e }) :=
  ⟨.of_engine (onEngine_keeps b _ rfl rfl) rfl rfl rfl List.prefix_rfl (List.Sublist.refl _), .of_deferred rfl⟩

theorem onWaiting_effects (b : Bridge) (formed : List MgmtReply) :
    PushEffects b (b.onEngine fun e => { e with waiting := e.waiting ++ formed }) :=
  ⟨.of_engine (onEngine_keeps b _ rfl rfl) rfl rfl rfl (List.prefix_append _ _) (List.Sublist.refl _), .of_deferred rfl⟩

theorem place_effects {b : Bridge} {x : Push} (hup : b.isDown x.port = false) : PushEffects b (b.place x) := by
  obtain ⟨hengine, hcapture, hover⟩ := place_engine_capture b x
  refine ⟨⟨place_keeps b x, fun q c => ?_, fun q hq c => queue_place_other b x ?_, hcapture ▸ List.prefix_rfl,
    fun h => hover.trans h, hengine ▸ List.prefix_rfl, hengine ▸ List.Sublist.refl _⟩, .of_deferred (by rw [hengine])⟩
  · by_cases h : q = x.port ∧ c = x.cls
    · obtain ⟨rfl, rfl⟩ := h
      rw [queue_place_self]
      exact List.prefix_append _ _
    · exact queue_place_other b x h ▸ List.prefix_rfl
  · rintro ⟨rfl, -⟩
    rw [hup] at hq
    cases hq

theorem enterRecord_effects (b : Bridge) (r : Record) : PushEffects b (b.enterRecord r) := by
  obtain ⟨hports, hengine⟩ := enterRecord_ports_engine b r
  have hqueue (q : Port) (c : Cls) : (b.enterRecord r).queue q c = b.queue q c := by
    rw [Bridge.queue, Bridge.port, hports]; rfl
  refine ⟨⟨enterRecord_keeps b r, fun q c => hqueue q c ▸ List.prefix_rfl, fun q _ c => hqueue q c, ?_, ?_,
    hengine ▸ List.prefix_rfl, hengine ▸ List.Sublist.refl _⟩, .of_deferred (by rw [hengine])⟩
  all_goals rcases enterRecord_cases b r with ⟨hcapture, hover⟩ | ⟨-, hcapture, hover⟩
  · exact hcapture ▸ List.prefix_append _ _
  · exact hcapture ▸ List.prefix_rfl
  · exact fun h => hover.trans h
  · exact fun _ => hover

theorem enterRecord_raised (b : Bridge) (r : Record) : RecordRaised b (b.enterRecord r) r := by
  rcases enterRecord_cases b r with ⟨hcapture, -⟩ | ⟨hfull, hcapture, hover⟩
  · exact ⟨[r], hcapture, .inl (List.mem_singleton_self r)⟩
  · exact ⟨[], by rw [hcapture, List.append_nil], .inr ⟨hcapture ▸ hfull, hover⟩⟩

/-- A packet was pushed: it stands in its queue as the newest, before what the push brought about, or its DISCARDED
record was raised at its DOWN port (05 R88, R100). -/
structure PacketPushed (x : Push) (b t : Bridge) : Prop where
  effects : PushEffects b t
  stands : b.isDown x.port = false → b.queue x.port x.cls ++ [admitted x b] <+: t.queue x.port x.cls
  lost : b.isDown x.port = true → RecordRaised b t (discardRecord x.port x.pkt b.timeBase)

theorem PacketPushed.of_down {x : Push} {b t : Bridge} (hdown : b.isDown x.port = true) (heffects : PushEffects b t)
    (hlost : RecordRaised b t (discardRecord x.port x.pkt b.timeBase)) : PacketPushed x b t :=
  ⟨heffects, fun hup => absurd hdown (Bool.eq_false_iff.mp hup), fun _ => hlost⟩

theorem PacketPushed.of_place {x : Push} {b t : Bridge} (hup : b.isDown x.port = false)
    (h : PushEffects (b.place x) t) : PacketPushed x b t :=
  ⟨(place_effects hup).trans h, fun _ => queue_place_self b x ▸ h.adds.queue _ _, fun hdown =>
    absurd hdown (Bool.eq_false_iff.mp hup)⟩

theorem discardRecord_done {k : Packet} (hdone : k.kind = .done) (p : Port) (now : Time) :
    discardRecord p k now = { bareRecord .discarded p now with
      src := some k.src, tag := some k.tag, status := some k.status, count := some 1 } := by
  simp only [discardRecord, hdone]
  rfl

/-- A pushed DONE for a Reply queue was given. -/
theorem PacketPushed.replyGiven {b t : Bridge} {r : MgmtReply} {w : Bool} (hdone : r.pkt.kind = .done)
    (h : PacketPushed { Push.reply r.port r.pkt with wakes := w } b t) : ReplyGiven b t r := by
  by_cases hdown : b.isDown r.port = true
  · refine .inr (.inr ⟨(h.effects.adds.keeps.isDown _).trans hdown, ?_⟩)
    rw [h.effects.adds.keeps.timeBase, ← discardRecord_done hdone]
    exact h.lost hdown
  · have hstands := h.stands (Bool.eq_false_iff.mpr hdown)
    exact .inl ⟨_, hstands.subset (List.mem_append_right _ (List.mem_singleton_self _)), rfl⟩

theorem recordWith_cases (push : Push → Bridge → Bridge) (r : Record) (b : Bridge) :
    recordWith push r b = b.enterRecord r ∨ recordWith push r b = notifyWith push 0 (b.enterRecord r) := by
  unfold recordWith
  dsimp only
  split
  · exact .inr rfl
  · exact .inl rfl

/-- A reply is pushed, its command leaving the queue where it was immediate, or it comes to wait (10 R169). -/
theorem deliverWith_cases (push : Push → Bridge → Bridge) (r : MgmtReply) (w : Bool) (b : Bridge) :
    (∃ queue : Engine → List Command, deliverWith push r w b =
      push { Push.reply r.port r.pkt with wakes := w } (b.onEngine fun e => { e with queue := queue e })) ∨
    deliverWith push r w b = b.onEngine fun e => { e with waiting := e.waiting ++ [r] } := by
  unfold deliverWith
  dsimp only
  split
  · split
    · exact .inl ⟨fun e => e.queue.tail, rfl⟩
    · exact .inl ⟨fun e => e.queue, rfl⟩
  · exact .inr rfl

/-- The part without the listed LINK_PARK drain of a port. -/
def eraseDrain (p : Port) (b : Bridge) : Bridge :=
  b.onEngine fun e => { e with deferred := e.deferred.eraseP (·.parks p) }

theorem eraseDrain_adds (p : Port) (b : Bridge) : PushAdds b (eraseDrain p b) :=
  .of_engine (onEngine_keeps b _ rfl rfl) rfl rfl rfl List.prefix_rfl (List.eraseP_sublist ..)

/-- A port with one drain listed has none once it is erased. -/
theorem noDrain_eraseDrain {b : Bridge} {p : Port} {d : Deferred} (h : b.engine.deferred.filter (·.parks p) = [d]) :
    noDrain (eraseDrain p b) p := by
  refine List.find?_eq_none.mpr (List.filter_eq_nil_iff.mp ?_)
  exact (filter_eraseP_self _ _).trans (congrArg List.tail h)

theorem failDrainWith_of_noDrain (push : Push → Bridge → Bridge) {p : Port} {b : Bridge} (h : noDrain b p) :
    failDrainWith push p b = b := by
  rw [failDrainWith, h]

theorem failDrainWith_of_listed (push : Push → Bridge → Bridge) {p : Port} {b : Bridge} {d : Deferred}
    (h : b.engine.deferred.find? (·.parks p) = some d) :
    failDrainWith push p b = deliverWith push (d.reply b.unit .busy []) true (eraseDrain p b) := by
  rw [failDrainWith, h]
  rfl

theorem find?_of_filter_eq {p : Port} {ds : List Deferred} {d : Deferred} (h : ds.filter (·.parks p) = [d]) :
    ds.find? (·.parks p) = some d := by
  rw [← List.head?_filter, h]
  rfl

theorem reply_kind (d : Deferred) (unit : UnitNo) (st : Status) (data : List Byte) :
    (d.reply unit st data).pkt.kind = .done := rfl

section
variable {push : Push → Bridge → Bridge} (hp : ∀ x b, PacketPushed x b (push x b))
include hp

theorem notifyWith_effects (i : Fin 64) (b : Bridge) : PushEffects b (notifyWith push i b) := by
  unfold notifyWith
  dsimp only
  split
  · exact (setLine_effects b i _).trans (hp _ _).effects
  · exact setLine_effects b i _

theorem recordWith_effects (r : Record) (b : Bridge) : PushEffects b (recordWith push r b) := by
  rcases recordWith_cases push r b with h | h <;> rw [h]
  · exact enterRecord_effects b r
  · exact (enterRecord_effects b r).trans (notifyWith_effects hp 0 _)

theorem recordWith_raised (r : Record) (b : Bridge) : RecordRaised b (recordWith push r b) r := by
  rcases recordWith_cases push r b with h | h <;> rw [h]
  · exact enterRecord_raised b r
  · exact (notifyWith_effects hp 0 _).adds.recordRaised_after (enterRecord_raised b r)

theorem deliverWith_effects (r : MgmtReply) (w : Bool) (b : Bridge) : PushEffects b (deliverWith push r w b) := by
  rcases deliverWith_cases push r w b with ⟨queue, h⟩ | h <;> rw [h]
  · exact (onCommands_effects b queue).trans (hp _ _).effects
  · exact onWaiting_effects b [r]

theorem deliverWith_given {r : MgmtReply} (hdone : r.pkt.kind = .done) (w : Bool) (b : Bridge) :
    ReplyGiven b (deliverWith push r w b) r := by
  rcases deliverWith_cases push r w b with ⟨queue, h⟩ | h <;> rw [h]
  · exact (onCommands_effects b queue).adds.replyGiven_before ((hp _ _).replyGiven hdone)
  · exact .inr (.inl (List.mem_append_right _ (List.mem_singleton_self r)))

theorem failDrainWith_fails {p : Port} {b : Bridge} {d : Deferred} (h : b.engine.deferred.filter (·.parks p) = [d]) :
    DrainFailed b (failDrainWith push p b) p d := by
  rw [failDrainWith_of_listed push (find?_of_filter_eq h)]
  exact .before (eraseDrain_adds p b)
    ⟨(deliverWith_effects hp _ true _).adds.noDrain (noDrain_eraseDrain h), deliverWith_given hp (reply_kind ..) true _⟩

theorem failDrainWith_effects (p : Port) (b : Bridge) : PushEffects b (failDrainWith push p b) := by
  cases hlisted : b.engine.deferred.find? (·.parks p) with
  | none =>
    rw [failDrainWith_of_noDrain push hlisted]
    exact .refl b
  | some d =>
    have herased := eraseDrain_adds p b
    have hdelivered := deliverWith_effects hp (d.reply b.unit .busy []) true (eraseDrain p b)
    refine ⟨?_, fun q d' hq => ?_⟩
    · rw [failDrainWith_of_listed push hlisted]
      exact herased.trans hdelivered.adds
    · by_cases hqp : q = p
      · subst hqp
        exact .inr (failDrainWith_fails hp hq)
      · rw [failDrainWith_of_listed push hlisted]
        exact (hdelivered.drains q d' ((filter_parks_eraseP hqp _).trans hq)).imp_right (.before herased)

end

theorem pushWith_pushed (fuel : Nat) (x : Push) (b : Bridge) : PacketPushed x b (pushWith fuel x b) := by
  induction fuel generalizing x b with
  | zero =>
    unfold pushWith
    split
    next hdown => exact .of_down hdown (enterRecord_effects b _) (enterRecord_raised b _)
    next hup => exact .of_place (Bool.eq_false_iff.mpr hup) (.refl _)
  | succ n ih =>
    unfold pushWith
    split
    next hdown => exact .of_down hdown (recordWith_effects ih _ b) (recordWith_raised ih _ b)
    next hup => exact .of_place (Bool.eq_false_iff.mpr hup) (failDrainWith_effects ih _ _)

theorem push_pushed (x : Push) (b : Bridge) : PacketPushed x b (push x b) := pushWith_pushed 5 x b

/-! ### Two packets pushed in one event -/

theorem push_of_noDrain {x : Push} {b : Bridge} (hup : b.isDown x.port = false) (hno : noDrain b x.port) :
    push x b = b.place x := by
  have hplaced : noDrain (b.place x) x.port := (place_effects hup).adds.noDrain hno
  calc push x b = failDrainWith (pushWith 4) x.port (b.place x) := by simp [push, pushWith, hup]
    _ = b.place x := failDrainWith_of_noDrain _ hplaced

theorem enter_of_up {x : Push} {b : Bridge} (hup : b.isDown x.port = false) : enter x b = b.place x := by
  simp [enter, hup]

theorem enter_of_down {x : Push} {b : Bridge} (hdown : b.isDown x.port = true) : enter x b = b := by
  simp [enter, hdown]

theorem follow_of_up {x : Push} {b : Bridge} (hup : b.isDown x.port = false) :
    follow x b = failDrainWith push x.port b := by
  simp [follow, hup]

theorem follow_of_down {x : Push} {b : Bridge} (hdown : b.isDown x.port = true) :
    follow x b = raise (discardRecord x.port x.pkt b.timeBase) b := by
  simp [follow, hdown, raise]

theorem enter_effects (x : Push) (b : Bridge) : PushEffects b (enter x b) := by
  by_cases hdown : b.isDown x.port = true
  · rw [enter_of_down hdown]
    exact .refl b
  · rw [enter_of_up (Bool.eq_false_iff.mpr hdown)]
    exact place_effects (Bool.eq_false_iff.mpr hdown)

theorem follow_effects (x : Push) (b : Bridge) : PushEffects b (follow x b) := by
  unfold follow
  split
  · exact recordWith_effects push_pushed _ b
  · exact failDrainWith_effects push_pushed _ b

theorem pushBoth_effects (x y : Push) (b : Bridge) : PushEffects b (pushBoth x y b) :=
  (((enter_effects x b).trans (enter_effects y _)).trans (follow_effects x _)).trans (follow_effects y _)

/-- The first packet of two stands in its queue as the newest, before what either brought about. -/
theorem pushBoth_stands_first {x : Push} {b : Bridge} (y : Push) (hup : b.isDown x.port = false) :
    b.queue x.port x.cls ++ [admitted x b] <+: (pushBoth x y b).queue x.port x.cls := by
  have hrest : PushEffects (b.place x) (pushBoth x y b) := by
    rw [pushBoth, enter_of_up hup]
    exact ((enter_effects y _).trans (follow_effects x _)).trans (follow_effects y _)
  exact queue_place_self b x ▸ hrest.adds.queue _ _

theorem isDown_place {b : Bridge} (x : Push) (q : Port) : (b.place x).isDown q = b.isDown q :=
  (place_keeps b x).isDown q

/-- The second packet of two, for the other port, stands in its queue as the newest, before what either brought
about. -/
theorem pushBoth_stands_second {x y : Push} {b : Bridge} (hports : y.port ≠ x.port) (hup : b.isDown x.port = false)
    (hupy : b.isDown y.port = false) :
    b.queue y.port y.cls ++ [admitted y b] <+: (pushBoth x y b).queue y.port y.cls := by
  have hport : (b.place x).port y.port = b.port y.port := port_place_other b x hports
  have hstands : ((b.place x).place y).queue y.port y.cls = b.queue y.port y.cls ++ [admitted y b] := by
    rw [queue_place_self, admitted, Bridge.queue, hport]
    rfl
  have hrest : PushEffects ((b.place x).place y) (pushBoth x y b) := by
    rw [pushBoth, enter_of_up hup, enter_of_up ((isDown_place x _).trans hupy)]
    exact (follow_effects x _).trans (follow_effects y _)
  exact hstands ▸ hrest.adds.queue _ _

/-- The second packet of two, for a DOWN port, is discarded with its record after all the first brings about. -/
theorem pushBoth_of_down {x y : Push} {b : Bridge} (hup : b.isDown x.port = false) (hdown : b.isDown y.port = true) :
    pushBoth x y b = raise (discardRecord y.port y.pkt b.timeBase) (follow x (b.place x)) := by
  have hkeeps : PushKeeps b (follow x (b.place x)) := (place_keeps b x).trans (follow_keeps x _)
  rw [pushBoth, enter_of_up hup, enter_of_down ((isDown_place x _).trans hdown),
    follow_of_down ((hkeeps.isDown _).trans hdown), hkeeps.timeBase]

theorem pushBoth_lost {x y : Push} {b : Bridge} (hup : b.isDown x.port = false) (hdown : b.isDown y.port = true) :
    RecordRaised b (pushBoth x y b) (discardRecord y.port y.pkt b.timeBase) := by
  rw [pushBoth_of_down hup hdown]
  exact ((place_effects hup).trans (follow_effects x _)).adds.recordRaised_before
    (recordWith_raised push_pushed _ _)

theorem follow_place_of_noDrain {x : Push} {b : Bridge} (hup : b.isDown x.port = false) (hno : noDrain b x.port) :
    follow x (b.place x) = push x b := by
  rw [push_of_noDrain hup hno, follow_of_up ((isDown_place x _).trans hup)]
  exact failDrainWith_of_noDrain push ((place_effects hup).adds.noDrain hno)

/-- Where no drain fails, two packets pushed in one event are pushed one after the other. -/
theorem pushBoth_of_noDrain {x y : Push} {b : Bridge} (hup : b.isDown x.port = false) (hupy : b.isDown y.port = false)
    (hno : noDrain b x.port) (hnoy : noDrain b y.port) : pushBoth x y b = push y (push x b) := by
  have hplaced : PushEffects b (b.place x) := place_effects hup
  have hupy' : (b.place x).isDown y.port = false := (isDown_place x _).trans hupy
  have hboth : PushEffects b ((b.place x).place y) := hplaced.trans (place_effects hupy')
  have hfirst : follow x ((b.place x).place y) = (b.place x).place y :=
    (follow_of_up ((hboth.adds.keeps.isDown _).trans hup)).trans
      (failDrainWith_of_noDrain push (hboth.adds.noDrain hno))
  rw [pushBoth, enter_of_up hup, enter_of_up hupy', hfirst, push_of_noDrain hup hno]
  exact follow_place_of_noDrain hupy' (hplaced.adds.noDrain hnoy)

/-- A push's effects make its port's drain fail, unless what came before them did. -/
theorem PushEffects.follow_fails {a b : Bridge} (h : PushEffects a b) {x : Push} (hup : a.isDown x.port = false)
    {d : Deferred} (hd : a.engine.deferred.filter (·.parks x.port) = [d]) :
    DrainFailed a (follow x b) x.port d := by
  rcases h.drains _ d hd with hlisted | hfailed
  · rw [follow_of_up ((h.adds.keeps.isDown _).trans hup)]
    exact .before h.adds (failDrainWith_fails push_pushed hlisted)
  · exact hfailed.after (follow_effects x b).adds

/-- Two packets pushed in one event make the drains of both their ports fail. -/
theorem pushBoth_fails_drains {x y : Push} {b : Bridge} {q : Port} (hq : q = x.port ∨ q = y.port)
    (hup : b.isDown q = false) {d : Deferred} (hd : b.engine.deferred.filter (·.parks q) = [d]) :
    DrainFailed b (pushBoth x y b) q d := by
  have hentered := (enter_effects x b).trans (enter_effects y (enter x b))
  rcases hq with rfl | rfl
  · exact (hentered.follow_fails hup hd).after (follow_effects y _).adds
  · exact (hentered.trans (follow_effects x _)).follow_fails hup hd

end Sys2Proof.PushedPackets
end

section
/-! The packets the Forwarding Engines take (O30 to O33, O35, O36): what taking a packet does, the route of each kind of
packet, what a route needs, and carrying it out, each said once; then the statements, by the kind of packet. -/

namespace Sys2Proof.TakenPackets

open Sys2Proof.Machine Sys2Proof.Safety Sys2Proof.Laws Sys2Proof.WindowTable Sys2Proof.PushedPackets

/-! ### Taking a packet -/

theorem takeAt_of_ready {b : Bridge} {p : Port} {c : Cls} {i : Nat} {k : Packet} {r : Route}
    (hk : (b.pool p c)[i]? = some k) (hroute : routeOf b p k = r) (hready : r.ready b = true) :
    takeAt p c i b = removePacket p c i k (r.carryOut b) := by
  simp [takeAt, hk, hroute, hready]

theorem takeAt_of_not_ready {b : Bridge} {p : Port} {c : Cls} {i : Nat} {k : Packet}
    (hk : (b.pool p c)[i]? = some k) (hready : ¬(routeOf b p k).ready b = true) : takeAt p c i b = b := by
  simp [takeAt, hk, hready]

theorem takeHead_of_pool {b : Bridge} {p : Port} {c : Cls} {kinds : List Kind} {k : Packet} {rest : List Packet}
    (hpool : b.pool p c = k :: rest) (hkind : kinds.contains k.kind = true) (hwf : malformed p k = false) :
    takeHead p c kinds b = takeAt p c 0 b := by
  simp only [takeHead, hpool, hkind, hwf, Bool.not_false, Bool.and_self, if_true]

/-- What leaves a pool moves its cost from occupied to freed (06 R106). -/
theorem removePacket_eq (p : Port) (c : Cls) (i : Nat) (k : Packet) (b : Bridge) :
    removePacket p c i k b = b.setPort p { b.port p with
      ingress := { (b.port p).ingress with
        pools := (b.port p).ingress.pools.set c ((b.pool p c).eraseIdx i),
        account := (b.port p).ingress.account.set c { b.account p c with
          occupied := ⟨(b.account p c).occupied.headers - 1, (b.account p c).occupied.blocks - k.blocks.toNat⟩,
          freed := ⟨(b.account p c).freed.headers + 1, (b.account p c).freed.blocks + k.blocks.toNat⟩ } } } := by
  cases p <;> rfl

/-! ### What a route needs -/

theorem hasPlace_of_room {b : Bridge} {p : Port} {c : Cls} (h : b.hasRoom p c = true) : b.hasPlace p c = true := by
  simp [Bridge.hasPlace, h]

theorem not_hasPlace {b : Bridge} {p : Port} {c : Cls} (hup : b.isDown p = false) (h : b.hasRoom p c = false) :
    b.hasPlace p c = false := by
  simp [Bridge.hasPlace, hup, h]

/-- What a route needs: its places, and an entry or a place in the command queue (03 Table 3-1). -/
def routeNeeds (r : Route) : List Need :=
  (r.uses.map fun u => Need.place u.1 u.2) ++
    match r with
    | .entry d _ _ => [.entry d]
    | .engine _ => [.command]
    | _ => []

theorem place_present_iff (b : Bridge) (p : Port) (c : Cls) : (Need.place p c).present b ↔ b.hasPlace p c = true := by
  simp only [Need.present, Bridge.hasPlace, Bridge.hasRoom, Bool.or_eq_true, decide_eq_true_eq]
  rfl

theorem freeEntry?_eq_some_iff (b : Bridge) (d : Dir) (e : Fin 64) :
    b.freeEntry? d = some e ↔ (b.entry d e).state = .free ∧ ∀ j, (b.entry d j).state = .free → e ≤ j := by
  simp [Bridge.freeEntry?, find?_finRange_eq_some_iff]

theorem freeEntry?_eq_none_iff (b : Bridge) (d : Dir) :
    b.freeEntry? d = none ↔ ∀ e, (b.entry d e).state ≠ .free := by
  simp [Bridge.freeEntry?]

theorem entry_present_iff (b : Bridge) (d : Dir) : (Need.entry d).present b ↔ (b.freeEntry? d).isSome = true := by
  rw [← Option.ne_none_iff_isSome, Ne, freeEntry?_eq_none_iff]
  simp [Need.present]

/-- A route is ready when each thing it needs is present (03 R43). -/
theorem ready_iff_present (r : Route) (b : Bridge) : r.ready b = true ↔ ∀ n ∈ routeNeeds r, n.present b := by
  have hplaces : (r.uses.all fun u => b.hasPlace u.1 u.2) = true ↔
      ∀ n ∈ r.uses.map fun u => Need.place u.1 u.2, n.present b := by
    simp only [List.all_eq_true, List.forall_mem_map, place_present_iff]
  unfold Route.ready routeNeeds
  rw [Bool.and_eq_true, hplaces, List.forall_mem_append]
  refine and_congr_right fun _ => ?_
  cases r with
  | entry d k slot => exact (entry_present_iff b d).symm.trans List.forall_mem_singleton.symm
  | engine c =>
    have hcommand : (Need.command).present b ↔ ∀ n ∈ [Need.command], n.present b := List.forall_mem_singleton.symm
    exact decide_eq_true_iff.trans hcommand
  | _ => simp

theorem mem_uses_iff (r : Route) (p : Port) (c : Cls) : (p, c) ∈ r.uses ↔ Need.place p c ∈ routeNeeds r := by
  cases r <;> simp [routeNeeds, Route.uses]

/-! ### The route of each kind of packet -/

section
variable {b : Bridge} {p : Port} {k : Packet}

theorem routeOf_malformed (hmal : malformed p k = true) : routeOf b p k = routeMalformed b p k := by
  rw [routeOf, if_pos hmal]

theorem routeOf_put (hwf : malformed p k = false) (hkind : k.kind = .put) : routeOf b p k = routePut b p k := by
  simp only [routeOf, hwf, hkind, Bool.false_eq_true, if_false]

theorem routeOf_getSet (hwf : malformed p k = false) (hkind : k.kind = .get ∨ k.kind = .set) :
    routeOf b p k = routeGetSet b p k := by
  rcases hkind with hkind | hkind <;> simp only [routeOf, hwf, hkind, Bool.false_eq_true, if_false]

theorem routeOf_manage (hwf : malformed p k = false) (hkind : k.kind = .manage) :
    routeOf b p k = routeManage b p k := by
  simp only [routeOf, hwf, hkind, Bool.false_eq_true, if_false]

theorem routeOf_reply (hwf : malformed p k = false) (hkind : k.kind = .data ∨ k.kind = .done) :
    routeOf b p k = routeReply b p k := by
  rcases hkind with hkind | hkind <;> simp only [routeOf, hwf, hkind, Bool.false_eq_true, if_false]

/-- A PUT or SET is checked for write permission (03 R47, R49). -/
theorem allowed_of_not_get {w : WindowRecord} (hkind : k.kind ≠ .get) :
    b.allowed w k = (b.member k.src w.group && w.writeAllowed) := by
  simp [Bridge.allowed, hkind]

/-! A PUT (03 R47, R48, R54), and a query sent on (03 R50, R51, R54). -/

theorem forwardPut_of_down (hdown : b.isDown p.other = true) (a : Addr) : forwardPut b p k a =
    .discard { bareRecord .discarded p.other b.timeBase with
      src := some k.src, addr := some k.addr, count := some 1 } := by
  rw [forwardPut, if_pos hdown]
  rfl

theorem forwardPut_of_up (hup : b.isDown p.other = false) (a : Addr) :
    forwardPut b p k a = .single (Push.plain p.other { k with addr := a }) := by
  rw [forwardPut, if_neg (Bool.eq_false_iff.mp hup)]
  rfl

theorem routePut_of_hit {i : Fin 32} (hhit : b.lookup p.dir k.addr = some i) : routePut b p k =
    if b.allowed (b.slot i).window k then forwardPut b p k ((b.slot i).window.translate k.addr)
    else .discard (packetRecord .accessDenied p k b.timeBase true false (some i) none) := by
  simp only [routePut, hhit]

theorem routePut_of_pass (hmiss : b.lookup p.dir k.addr = none) (hpolicy : b.miss.get p.dir = .pass) :
    routePut b p k = forwardPut b p k k.addr := by
  simp only [routePut, hmiss, hpolicy]

theorem routePut_of_reflect (hmiss : b.lookup p.dir k.addr = none) (hpolicy : b.miss.get p.dir = .reflect) :
    routePut b p k = .single (Push.plain p k) := by
  simp only [routePut, hmiss, hpolicy]

theorem routePut_of_reject (hmiss : b.lookup p.dir k.addr = none) (hpolicy : b.miss.get p.dir = .reject) :
    routePut b p k = .discard { bareRecord .noWindow p b.timeBase with src := some k.src, addr := some k.addr } := by
  simp only [routePut, hmiss, hpolicy]
  rfl

theorem forwardQuery_of_down (hdown : b.isDown p.other = true) (a : Addr) (slot : Option (Fin 32)) :
    forwardQuery b p k a slot = answerWith b p k .linkDown none := by
  rw [forwardQuery, if_pos hdown]

theorem forwardQuery_of_up (hup : b.isDown p.other = false) (a : Addr) (slot : Option (Fin 32)) :
    forwardQuery b p k a slot = .entry p.dir (k.moved a) slot := by
  rw [forwardQuery, if_neg (Bool.eq_false_iff.mp hup)]

theorem earlyAckRoute_of_down (hdown : b.isDown p.other = true) (a : Addr) :
    earlyAckRoute b p k a = answerWith b p k .linkDown none := by
  rw [earlyAckRoute, if_pos hdown]

theorem earlyAckRoute_of_up (hup : b.isDown p.other = false) (a : Addr) : earlyAckRoute b p k a =
    .earlyAck (Push.plain p.other { k with kind := .put, addr := a })
      (Push.plain p (donePacket b.unit k.src k.tag .ok)) := by
  rw [earlyAckRoute, if_neg (Bool.eq_false_iff.mp hup)]
  rfl

/-! A GET or SET (03 R49 to R52). -/

theorem routeGetSet_of_denied {i : Fin 32} (hhit : b.lookup p.dir k.addr = some i)
    (hdenied : b.allowed (b.slot i).window k = false) :
    routeGetSet b p k = answerWith b p k .denied (some { bareRecord .accessDenied p b.timeBase with
      src := some k.src, addr := some k.addr, tag := some k.tag, slot := some i, status := some 3 }) := by
  simp only [routeGetSet, hhit, hdenied]
  rfl

theorem routeGetSet_of_declined {i : Fin 32} (hhit : b.lookup p.dir k.addr = some i)
    (hallowed : b.allowed (b.slot i).window k = true) (hdeclined : declined (b.slot i).window k = true) :
    routeGetSet b p k = answerWith b p k .declined none := by
  simp only [routeGetSet, hhit, hallowed, hdeclined]
  rfl

theorem routeGetSet_of_earlyAck {i : Fin 32} (hhit : b.lookup p.dir k.addr = some i)
    (hallowed : b.allowed (b.slot i).window k = true) (hset : k.kind = .set)
    (hearly : (b.slot i).window.earlyAck = true) :
    routeGetSet b p k = earlyAckRoute b p k ((b.slot i).window.translate k.addr) := by
  simp only [routeGetSet, hhit, hallowed, declined, hset, hearly]
  rfl

theorem routeGetSet_of_forward {i : Fin 32} (hhit : b.lookup p.dir k.addr = some i)
    (hallowed : b.allowed (b.slot i).window k = true) (hdeclined : declined (b.slot i).window k = false)
    (hnot : ¬(k.kind = .set ∧ (b.slot i).window.earlyAck = true)) :
    routeGetSet b p k = forwardQuery b p k ((b.slot i).window.translate k.addr) (some i) := by
  have hnot' : (k.kind == .set && (b.slot i).window.earlyAck) = false := by simpa using hnot
  simp only [routeGetSet, hhit, hallowed, hdeclined, hnot']
  rfl

/-- Toward a DOWN port a query is answered LINK_DOWN, whether or not its window acknowledges early (03 R54). -/
theorem routeGetSet_of_otherDown {i : Fin 32} (hhit : b.lookup p.dir k.addr = some i)
    (hallowed : b.allowed (b.slot i).window k = true) (hdeclined : declined (b.slot i).window k = false)
    (hdown : b.isDown p.other = true) : routeGetSet b p k = answerWith b p k .linkDown none := by
  by_cases hearly : k.kind = .set ∧ (b.slot i).window.earlyAck = true
  · obtain ⟨hset, hearly⟩ := hearly
    rw [routeGetSet_of_earlyAck hhit hallowed hset hearly, earlyAckRoute_of_down hdown]
  · rw [routeGetSet_of_forward hhit hallowed hdeclined hearly, forwardQuery_of_down hdown]

theorem routeGetSet_of_pass (hmiss : b.lookup p.dir k.addr = none) (hpolicy : b.miss.get p.dir = .pass) :
    routeGetSet b p k = forwardQuery b p k k.addr none := by
  simp only [routeGetSet, hmiss, hpolicy]

theorem routeGetSet_of_reflect (hmiss : b.lookup p.dir k.addr = none) (hpolicy : b.miss.get p.dir = .reflect) :
    routeGetSet b p k = .single (Push.plain p k) := by
  simp only [routeGetSet, hmiss, hpolicy]

theorem routeGetSet_of_reject (hmiss : b.lookup p.dir k.addr = none) (hpolicy : b.miss.get p.dir = .reject) :
    routeGetSet b p k = answerWith b p k .noTarget (some { bareRecord .noWindow p b.timeBase with
      src := some k.src, addr := some k.addr, tag := some k.tag, status := some 4 }) := by
  simp only [routeGetSet, hmiss, hpolicy]
  rfl

/-! A MANAGE (03 R55, R56). -/

theorem routeManage_of_other (hdst : k.dst ≠ b.unit) : routeManage b p k = forwardQuery b p k k.addr none := by
  rw [routeManage, if_pos (bne_iff_ne.mpr hdst)]

theorem routeManage_of_open (hdst : k.dst = b.unit) (hopen : p = .root ∨ b.engine.leafOpen = true) :
    routeManage b p k = .engine (commandOf p k) := by
  rw [routeManage, if_neg (by simp [hdst]), if_pos (by simpa using hopen)]

theorem routeManage_of_closed (hdst : k.dst = b.unit) (hclosed : ¬(p = .root ∨ b.engine.leafOpen = true)) :
    routeManage b p k = answerWith b p k .denied
      (some (packetRecord .accessDenied p k b.timeBase false true none (some Status.denied.code))) := by
  rw [routeManage, if_neg (by simp [hdst]), if_neg (by simpa using hclosed)]

/-! A DATA or DONE (03 R46, R58, R59). -/

theorem namedEntry_of_entry {e : Fin 64} (hdst : k.dst = b.unit) (htag : k.tag.toNat = e.val) :
    namedEntry b k = some e := by
  rw [namedEntry, if_pos (beq_iff_eq.mpr hdst), htag, index?_val]

theorem namedEntry_of_none (h : k.dst ≠ b.unit ∨ 64 ≤ k.tag.toNat) : namedEntry b k = none := by
  rcases h with hdst | htag
  · rw [namedEntry, if_neg (by simpa using hdst)]
  · rw [namedEntry, index?_none htag, ite_self]

theorem routeReply_of_stray (h : namedEntry b k = none) : routeReply b p k =
    .discard { bareRecord .strayReply p b.timeBase with
      src := some k.src, tag := some k.tag, status := if k.kind = .done then some k.status else none } := by
  simp [routeReply, h, strayRecord, packetRecord, bareRecord]

theorem routeReply_of_entry {e : Fin 64} (h : namedEntry b k = some e) : routeReply b p k =
    if answersEntry (b.entry p.replyTable e) k then .restore p.replyTable e k else .badReply p.replyTable e k := by
  simp only [routeReply, h]

theorem answersEntry_iff (x : Entry) (k : Packet) :
    answersEntry x k = true ↔ x.state = .waiting ∧ x.pos = .sent ∧ goodReply x k = true := by
  simp [answersEntry, and_assoc]

/-! A malformed packet (03 R45, R46). -/

theorem routeMalformed_of_getSet (hkind : k.kind = .get ∨ k.kind = .set) : routeMalformed b p k =
    answerWith b p k .malformed (some { bareRecord .malformed p b.timeBase with
      src := some k.src, addr := some k.addr, tag := some k.tag, status := some 7 }) := by
  rcases hkind with hkind | hkind <;> simp only [routeMalformed, malformedRecord, hkind] <;> rfl

theorem routeMalformed_of_put (hkind : k.kind = .put) : routeMalformed b p k =
    .discard { bareRecord .malformed p b.timeBase with src := some k.src, addr := some k.addr } := by
  simp only [routeMalformed, malformedRecord, hkind]
  rfl

theorem routeMalformed_of_signal (hkind : k.kind = .signal ∨ k.kind = .none7) : routeMalformed b p k =
    .discard { bareRecord .malformed p b.timeBase with src := some k.src } := by
  rcases hkind with hkind | hkind <;> simp only [routeMalformed, malformedRecord, hkind] <;> rfl

theorem routeMalformed_of_manage (hkind : k.kind = .manage) : routeMalformed b p k =
    .discard { bareRecord .malformed p b.timeBase with src := some k.src, tag := some k.tag } := by
  simp only [routeMalformed, malformedRecord, hkind]
  rfl

theorem routeMalformed_of_stray (hkind : k.kind = .data ∨ k.kind = .done) (hnone : namedEntry b k = none) :
    routeMalformed b p k =
      .discard { bareRecord .malformed p b.timeBase with src := some k.src, tag := some k.tag } := by
  rcases hkind with hkind | hkind <;> simp only [routeMalformed, malformedRecord, hkind, hnone] <;> rfl

theorem routeMalformed_of_entry {e : Fin 64} (hkind : k.kind = .data ∨ k.kind = .done)
    (hnamed : namedEntry b k = some e) : routeMalformed b p k =
      .notice { bareRecord .malformed p b.timeBase with src := some k.src, tag := some k.tag } p.replyTable e
        k.final := by
  rcases hkind with hkind | hkind <;> simp only [routeMalformed, malformedRecord, hkind, hnamed] <;> rfl

end

/-! ### What each packet's route needs -/

section
variable (b : Bridge) (p : Port) (k : Packet)

theorem routeNeeds_answerWith (st : Status) (r : Option Record) :
    routeNeeds (answerWith b p k st r) = [.place p .reply] := rfl

theorem routeNeeds_reflect : routeNeeds (.single (Push.plain p k)) = [.place p k.cls] := rfl

theorem routeNeeds_discard (r : Record) : routeNeeds (.discard r) = [] := rfl

theorem routeNeeds_restore (e : Fin 64) : routeNeeds (.restore p.replyTable e k) = [.place p.other .reply] := by
  cases p <;> rfl

theorem routeNeeds_forwardPut (a : Addr) : routeNeeds (forwardPut b p k a) =
    if b.isDown p.other then [] else [.place p.other k.cls] := by
  cases hdown : b.isDown p.other
  · rw [forwardPut_of_up hdown]; rfl
  · rw [forwardPut_of_down hdown]; rfl

theorem routeNeeds_forwardQuery (a : Addr) (slot : Option (Fin 32)) : routeNeeds (forwardQuery b p k a slot) =
    if b.isDown p.other then [.place p .reply] else [.place p.other .query, .entry p.dir] := by
  obtain ⟨-, hfar, -⟩ := dir_ports p
  cases hdown : b.isDown p.other
  · rw [forwardQuery_of_up hdown, ← hfar]; rfl
  · rw [forwardQuery_of_down hdown]; rfl

theorem routeNeeds_earlyAckRoute (a : Addr) : routeNeeds (earlyAckRoute b p k a) =
    if b.isDown p.other then [.place p .reply] else [.place p.other .stream, .place p .reply] := by
  cases hdown : b.isDown p.other
  · rw [earlyAckRoute_of_up hdown]; rfl
  · rw [earlyAckRoute_of_down hdown]; rfl

theorem routeNeeds_routeMalformed : routeNeeds (routeMalformed b p k) =
    if k.kind = .get ∨ k.kind = .set then [.place p .reply] else [] := by
  cases hkind : k.kind
  case data | done => simp only [routeMalformed, hkind]; split <;> rfl
  all_goals simp [routeMalformed, hkind, routeNeeds_answerWith, routeNeeds_discard]

theorem routeNeeds_routeReply : routeNeeds (routeReply b p k) = replyNeeds b p k := by
  obtain ⟨-, -, htable⟩ := dir_ports p
  by_cases htag : k.tag.toNat < 64
  · by_cases hdst : k.dst = b.unit
    · rw [routeReply_of_entry (namedEntry_of_entry (e := ⟨k.tag.toNat, htag⟩) hdst rfl), apply_ite routeNeeds]
      simp only [replyNeeds, htag, hdst, answersEntry_iff, dif_pos, true_and, routeNeeds_restore]
      rfl
    · rw [routeReply_of_stray (namedEntry_of_none (.inl hdst))]
      simp [replyNeeds, hdst, routeNeeds_discard]
  · rw [routeReply_of_stray (namedEntry_of_none (.inr (Nat.not_lt.mp htag)))]
    simp [replyNeeds, htag, routeNeeds_discard]

variable {b p k}

theorem routeNeeds_of_put (hwf : malformed p k = false) (hkind : k.kind = .put) :
    routeNeeds (routeOf b p k) = needs b p k := by
  have hcls : k.cls = .stream := by rw [Packet.cls, hkind]; rfl
  rw [routeOf_put hwf hkind]
  cases hlook : b.lookup p.dir k.addr with
  | some i =>
    rw [routePut_of_hit hlook, apply_ite routeNeeds, routeNeeds_forwardPut, routeNeeds_discard, hcls,
      allowed_of_not_get (by simp [hkind])]
    simp [needs, hwf, hkind, hlook]
  | none =>
    cases hpolicy : b.miss.get p.dir
    case pass =>
      rw [routePut_of_pass hlook hpolicy, routeNeeds_forwardPut, hcls]
      simp [needs, hwf, hkind, hlook, hpolicy]
    case reflect =>
      rw [routePut_of_reflect hlook hpolicy, routeNeeds_reflect, hcls]
      simp [needs, hwf, hkind, hlook, hpolicy]
    case reject =>
      rw [routePut_of_reject hlook hpolicy, routeNeeds_discard]
      simp [needs, hwf, hkind, hlook, hpolicy]

theorem routeNeeds_getSet_of_miss (hwf : malformed p k = false) (hkind : k.kind = .get ∨ k.kind = .set)
    (hmiss : b.lookup p.dir k.addr = none) : routeNeeds (routeOf b p k) = needs b p k := by
  have hcls : k.cls = .query := by rcases hkind with hkind | hkind <;> rw [Packet.cls, hkind] <;> rfl
  rw [routeOf_getSet hwf hkind]
  cases hpolicy : b.miss.get p.dir
  case pass =>
    rw [routeGetSet_of_pass hmiss hpolicy, routeNeeds_forwardQuery]
    rcases hkind with hkind | hkind <;> simp [needs, hwf, hkind, hmiss, hpolicy]
  case reflect =>
    rw [routeGetSet_of_reflect hmiss hpolicy, routeNeeds_reflect, hcls]
    rcases hkind with hkind | hkind <;> simp [needs, hwf, hkind, hmiss, hpolicy]
  case reject =>
    rw [routeGetSet_of_reject hmiss hpolicy, routeNeeds_answerWith]
    rcases hkind with hkind | hkind <;> simp [needs, hwf, hkind, hmiss, hpolicy]

theorem routeNeeds_get_of_hit {i : Fin 32} (hwf : malformed p k = false) (hkind : k.kind = .get)
    (hhit : b.lookup p.dir k.addr = some i) : routeNeeds (routeOf b p k) = needs b p k := by
  have hneeds : needs b p k = if b.allowed (b.slot i).window k = true ∧ declined (b.slot i).window k = false then
      (if b.isDown p.other then [.place p .reply] else [.place p.other .query, .entry p.dir])
      else [.place p .reply] := by
    simp [needs, hwf, hkind, hhit, Bridge.allowed, declined, and_assoc, Decidable.imp_iff_not_or]
  rw [routeOf_getSet hwf (.inl hkind), hneeds]
  cases hallowed : b.allowed (b.slot i).window k
  case false => rw [routeGetSet_of_denied hhit hallowed]; rfl
  case true =>
    cases hdeclined : declined (b.slot i).window k
    case false => rw [routeGetSet_of_forward hhit hallowed hdeclined (by simp [hkind]), routeNeeds_forwardQuery]; rfl
    case true => rw [routeGetSet_of_declined hhit hallowed hdeclined]; rfl

theorem routeNeeds_set_of_hit {i : Fin 32} (hwf : malformed p k = false) (hkind : k.kind = .set)
    (hhit : b.lookup p.dir k.addr = some i) : routeNeeds (routeOf b p k) = needs b p k := by
  have hneeds : needs b p k = if b.allowed (b.slot i).window k = true then
      (if (b.slot i).window.earlyAck = true then
        (if b.isDown p.other then [.place p .reply] else [.place p.other .stream, .place p .reply])
        else if b.isDown p.other then [.place p .reply] else [.place p.other .query, .entry p.dir])
      else [.place p .reply] := by
    rw [allowed_of_not_get (by simp [hkind])]
    simp [needs, hwf, hkind, hhit]
  have hdeclined : declined (b.slot i).window k = false := by simp [declined, hkind]
  rw [routeOf_getSet hwf (.inr hkind), hneeds]
  cases hallowed : b.allowed (b.slot i).window k
  case false => rw [routeGetSet_of_denied hhit hallowed]; rfl
  case true =>
    cases hearly : (b.slot i).window.earlyAck
    case false =>
      rw [routeGetSet_of_forward hhit hallowed hdeclined (by simp [hearly]), routeNeeds_forwardQuery]
      rfl
    case true => rw [routeGetSet_of_earlyAck hhit hallowed hkind hearly, routeNeeds_earlyAckRoute]; rfl

theorem routeNeeds_of_manage (hwf : malformed p k = false) (hkind : k.kind = .manage) :
    routeNeeds (routeOf b p k) = needs b p k := by
  rw [routeOf_manage hwf hkind]
  by_cases hdst : k.dst = b.unit
  · by_cases hopen : p = .root ∨ b.engine.leafOpen = true
    · rw [routeManage_of_open hdst hopen]
      simp [needs, hwf, hkind, hdst, hopen, routeNeeds, Route.uses]
    · rw [routeManage_of_closed hdst hopen, routeNeeds_answerWith]
      simp [needs, hwf, hkind, hdst, hopen]
  · rw [routeManage_of_other hdst, routeNeeds_forwardQuery]
    simp [needs, hwf, hkind, hdst]

theorem routeNeeds_of_reply (hwf : malformed p k = false) (hkind : k.kind = .data ∨ k.kind = .done) :
    routeNeeds (routeOf b p k) = needs b p k := by
  rw [routeOf_reply hwf hkind, routeNeeds_routeReply]
  rcases hkind with hkind | hkind <;> simp [needs, hwf, hkind]

variable (b p k)

/-- The needs of a packet's route are those of the statements (03 Table 3-1). -/
theorem routeNeeds_routeOf : routeNeeds (routeOf b p k) = needs b p k := by
  cases hmal : malformed p k
  case true => rw [routeOf_malformed hmal, routeNeeds_routeMalformed, needs, if_pos hmal]
  case false =>
    cases hkind : k.kind
    case put => exact routeNeeds_of_put hmal hkind
    case get =>
      cases hlook : b.lookup p.dir k.addr
      case none => exact routeNeeds_getSet_of_miss hmal (.inl hkind) hlook
      case some i => exact routeNeeds_get_of_hit hmal hkind hlook
    case set =>
      cases hlook : b.lookup p.dir k.addr
      case none => exact routeNeeds_getSet_of_miss hmal (.inr hkind) hlook
      case some i => exact routeNeeds_set_of_hit hmal hkind hlook
    case manage => exact routeNeeds_of_manage hmal hkind
    case data => exact routeNeeds_of_reply hmal (.inl hkind)
    case done => exact routeNeeds_of_reply hmal (.inr hkind)
    case signal => simp [routeOf, needs, hmal, hkind, routeNeeds, Route.uses]
    case none7 => simp [malformed, hkind] at hmal

end

/-- A packet is taken only when each of its needs is present (03 R43). -/
theorem ready_iff_needs (b : Bridge) (p : Port) (k : Packet) :
    (routeOf b p k).ready b = true ↔ ∀ n ∈ needs b p k, n.present b := by
  rw [ready_iff_present, routeNeeds_routeOf]

theorem not_ready_iff_needs (b : Bridge) (p : Port) (k : Packet) :
    ¬(routeOf b p k).ready b = true ↔ ∃ n ∈ needs b p k, ¬n.present b := by
  simp [ready_iff_needs]

/-! ### The bypass candidate -/

theorem isCandidate_iff (b : Bridge) (k : Packet) : isCandidate b k = true ↔ k.kind = .manage ∧ k.dst = b.unit := by
  simp [isCandidate]

theorem findIdx?_eq_some_iff_getElem? {α : Type} (f : α → Bool) (l : List α) (i : Nat) :
    l.findIdx? f = some i ↔
      (∃ a, l[i]? = some a ∧ f a = true) ∧ ∀ j a, j < i → l[j]? = some a → ¬f a = true := by
  rw [List.findIdx?_eq_some_iff_getElem]
  constructor
  · rintro ⟨hlt, hpass, hbefore⟩
    refine ⟨⟨l[i], List.getElem?_eq_getElem hlt, hpass⟩, fun j a hj ha => ?_⟩
    obtain ⟨_, rfl⟩ := List.getElem?_eq_some_iff.mp ha
    exact hbefore j hj
  · rintro ⟨⟨a, ha, hpass⟩, hbefore⟩
    obtain ⟨hlt, rfl⟩ := List.getElem?_eq_some_iff.mp ha
    exact ⟨hlt, hpass, fun j hj => hbefore j _ hj (List.getElem?_eq_getElem (Nat.lt_trans hj hlt))⟩

theorem candidate?_of_ready {b : Bridge} {p : Port} {head : Packet} {behind : List Packet}
    (hpool : b.pool p .query = head :: behind) (hready : (routeOf b p head).ready b = true) :
    candidate? b p = none := by
  simp [candidate?, headReady, hpool, hready]

theorem candidate?_of_not_ready {b : Bridge} {p : Port} {head : Packet} {behind : List Packet}
    (hpool : b.pool p .query = head :: behind) (hready : ¬(routeOf b p head).ready b = true) :
    candidate? b p = (behind.findIdx? (isCandidate b)).map (· + 1) := by
  simp [candidate?, headReady, hpool, hready]

/-- The bypass candidate is the oldest MANAGE for the bridge unit behind a head that cannot proceed (03 R44). -/
theorem candidate?_eq_some_iff (b : Bridge) (p : Port) (i : Nat) : candidate? b p = some i ↔
    ∃ head behind, b.pool p .query = head :: behind ∧ (∃ n ∈ needs b p head, ¬n.present b) ∧ 1 ≤ i ∧
      (∃ k, behind[i - 1]? = some k ∧ k.kind = .manage ∧ k.dst = b.unit) ∧
      ∀ j k, j < i - 1 → behind[j]? = some k → k.kind ≠ .manage ∨ k.dst ≠ b.unit := by
  simp only [← not_ready_iff_needs]
  constructor
  · intro hcandidate
    cases hpool : b.pool p .query with
    | nil => simp [candidate?, hpool] at hcandidate
    | cons head behind =>
      have hready : ¬(routeOf b p head).ready b = true := fun hready => by
        rw [candidate?_of_ready hpool hready] at hcandidate
        cases hcandidate
      rw [candidate?_of_not_ready hpool hready, Option.map_eq_some_iff] at hcandidate
      obtain ⟨j, hfound, rfl⟩ := hcandidate
      obtain ⟨⟨k, hk, hpass⟩, hbefore⟩ := (findIdx?_eq_some_iff_getElem? ..).mp hfound
      refine ⟨head, behind, rfl, hready, j.succ_pos, ⟨k, hk, (isCandidate_iff b k).mp hpass⟩, fun m k' hm hk' => ?_⟩
      exact Classical.not_and_iff_not_or_not.mp (mt (isCandidate_iff b k').mpr (hbefore m k' hm hk'))
  · rintro ⟨head, behind, hpool, hready, hpos, ⟨k, hk, hpass⟩, hbefore⟩
    rw [candidate?_of_not_ready hpool hready, Option.map_eq_some_iff]
    refine ⟨i - 1, (findIdx?_eq_some_iff_getElem? ..).mpr ⟨⟨k, hk, (isCandidate_iff b k).mpr hpass⟩, ?_⟩,
      Nat.sub_add_cancel hpos⟩
    exact fun m k' hm hk' => mt (isCandidate_iff b k').mp (Classical.not_and_iff_not_or_not.mpr (hbefore m k' hm hk'))

theorem candidate_isManage {b : Bridge} {p : Port} {i : Nat} {k : Packet} (hcandidate : candidate? b p = some i)
    (hk : (b.pool p .query)[i]? = some k) : k.kind = .manage ∧ k.dst = b.unit := by
  obtain ⟨head, behind, hpool, -, hpos, ⟨k', hk', hmanage⟩, -⟩ := (candidate?_eq_some_iff b p i).mp hcandidate
  obtain ⟨j, rfl⟩ := Nat.exists_eq_add_of_le' hpos
  rw [hpool, List.getElem?_cons_succ] at hk
  rw [Nat.add_sub_cancel, hk] at hk'
  cases hk'
  exact hmanage

/-! ### The rows that take a packet -/

section
variable {s : State} {p : Port} {c : Cls} {k : Packet} {rest : List Packet} {r : Route}

/-- A row that takes the well-formed head of a pool carries its route out and removes it (03 R42). -/
theorem head_taken {kinds : List Kind} (hrun : running s) (hpool : s.bridge.pool p c = k :: rest)
    (hkind : kinds.contains k.kind = true) (hwf : malformed p k = false) (hroute : routeOf s.bridge p k = r)
    (hready : r.ready s.bridge = true) :
    s.event (takeHead p c kinds) = { s with bridge := removePacket p c 0 k (r.carryOut s.bridge) } := by
  have hhead : (s.bridge.pool p c)[0]? = some k := by rw [hpool]; rfl
  rw [event_high s _ hrun, State.onBridge, takeHead_of_pool hpool hkind hwf, takeAt_of_ready hhead hroute hready]

/-- A head that cannot proceed stays (03 R43). -/
theorem head_stays {kinds : List Kind} (hrun : running s) (hpool : s.bridge.pool p c = k :: rest)
    (hkind : kinds.contains k.kind = true) (hwf : malformed p k = false) (hroute : routeOf s.bridge p k = r)
    (hready : r.ready s.bridge = false) : s.event (takeHead p c kinds) = s := by
  have hhead : (s.bridge.pool p c)[0]? = some k := by rw [hpool]; rfl
  rw [event_high s _ hrun, State.onBridge, takeHead_of_pool hpool hkind hwf,
    takeAt_of_not_ready hhead (by rw [hroute, hready]; exact Bool.false_ne_true)]

theorem getSet_taken (hrun : running s) (hpool : s.bridge.pool p .query = k :: rest)
    (hkind : k.kind = .get ∨ k.kind = .set) (hwf : malformed p k = false) (hroute : routeGetSet s.bridge p k = r)
    (hready : r.ready s.bridge = true) :
    exec (.takeGetSet p) s = .next { s with bridge := removePacket p .query 0 k (r.carryOut s.bridge) } := by
  have hcontains : [Kind.get, .set].contains k.kind = true := by rcases hkind with h | h <;> rw [h] <;> rfl
  exact congrArg _ (head_taken hrun hpool hcontains hwf ((routeOf_getSet hwf hkind).trans hroute) hready)

theorem malformed_taken (hrun : running s) (hpool : s.bridge.pool p c = k :: rest) (hmal : malformed p k = true)
    (hroute : routeOf s.bridge p k = r) (hready : r.ready s.bridge = true) :
    exec (.takeMalformed p c) s = .next { s with bridge := removePacket p c 0 k (r.carryOut s.bridge) } := by
  have hhead : (s.bridge.pool p c)[0]? = some k := by rw [hpool]; rfl
  simp only [exec, execTakeMalformed, event_high s _ hrun, State.onBridge, hpool, hmal, if_true,
    takeAt_of_ready hhead hroute hready]

theorem candidate_taken {i : Nat} (hrun : running s) (hcandidate : candidate? s.bridge p = some i)
    (hk : (s.bridge.pool p .query)[i]? = some k) (hroute : routeOf s.bridge p k = r)
    (hready : r.ready s.bridge = true) :
    exec (.managementBypass p) s = .next { s with bridge := removePacket p .query i k (r.carryOut s.bridge) } := by
  simp only [exec, execManagementBypass, event_high s _ hrun, State.onBridge, hcandidate,
    takeAt_of_ready hk hroute hready]

end

/-! ### When a route is ready, and what carrying it out does -/

section
variable {b : Bridge}

theorem ready_single (x : Push) : (Route.single x).ready b = b.hasPlace x.port x.cls := by
  simp [Route.ready, Route.uses]

theorem ready_answerWith (p : Port) (k : Packet) (st : Status) (r : Option Record) :
    (answerWith b p k st r).ready b = b.hasPlace p .reply := by
  simp [answerWith, Route.ready, Route.uses, Push.plain, Packet.cls, donePacket, Packet.zero, Kind.cls]

theorem ready_earlyAck (x y : Push) :
    (Route.earlyAck x y).ready b = (b.hasPlace x.port x.cls && b.hasPlace y.port y.cls) := by
  simp [Route.ready, Route.uses]

theorem ready_restore (d : Dir) (e : Fin 64) (k : Packet) :
    (Route.restore d e k).ready b = b.hasPlace d.requesterPort .reply := by
  simp [Route.ready, Route.uses]

theorem ready_engine {c : Command} (h : b.engine.queue.length < 8) : (Route.engine c).ready b = true :=
  decide_eq_true h

theorem ready_forward {p : Port} {e : Fin 64} (hroom : b.hasRoom p.other .query = true)
    (hfree : b.freeEntry? p.dir = some e) (k : Packet) (slot : Option (Fin 32)) :
    (Route.entry p.dir k slot).ready b = true := by
  obtain ⟨-, hfar, -⟩ := dir_ports p
  simp [Route.ready, Route.uses, hfar, hasPlace_of_room hroom, hfree]

theorem claimSlot_unit (slot : Option (Fin 32)) (b : Bridge) : (claimSlot slot b).unit = b.unit := by
  cases slot <;> rfl

/-- The entry a query is given (04 R64). -/
theorem entry_allocated_eq (k : Packet) (slot : Option (Fin 32)) (deadline : Time) : Entry.allocated k slot deadline =
    { state := .waiting, pos := .queued, reqUnit := k.src, reqTag := k.tag,
      kind := if k.kind = .set then .set else if k.kind = .manage then .manage else .get, slot := slot,
      reqBlocks := if k.kind = .get then (k.len.toNat + 1 + 63) / 64 else 0, delivered := 0,
      nextPart := if k.kind = .get then some 0 else none, deadline := deadline, owed := none, replySeen := false,
      quarEnd := 0 } := by
  cases hkind : k.kind <;> simp [Entry.allocated, Entry.free, hkind, blocksOf, Packet.length]

theorem entry_allocated_of_getSet {k : Packet} (hkind : k.kind = .get ∨ k.kind = .set) (slot : Option (Fin 32))
    (deadline : Time) : Entry.allocated k slot deadline =
      { state := .waiting, pos := .queued, reqUnit := k.src, reqTag := k.tag,
        kind := if k.kind = .set then .set else .get, slot := slot,
        reqBlocks := if k.kind = .get then blocksOf k.length else 0, delivered := 0,
        nextPart := if k.kind = .get then some 0 else none, deadline := deadline, owed := none, replySeen := false,
        quarEnd := 0 } := by
  rw [entry_allocated_eq]
  rcases hkind with hkind | hkind <;> rw [hkind] <;> rfl

/-- A query leaves through the lowest FREE entry, with the bridge unit as source and the entry as tag (03 R50, 04
R65). -/
theorem carryOut_entry {p : Port} {e : Fin 64} (hfree : b.freeEntry? p.dir = some e) (k : Packet)
    (slot : Option (Fin 32)) : (Route.entry p.dir k slot).carryOut b =
      push
        { port := p.other, cls := .query, mark := some { table := p.dir, entry := e }, wakes := true,
          pkt := { k with src := b.unit, tag := BitVec.ofNat 8 e.val } }
        (claimSlot slot
          (b.setEntry p.dir e (Entry.allocated k slot (b.timeBase + BitVec.ofNat 32 (1000 * b.deadlineMs))))) := by
  obtain ⟨-, hfar, -⟩ := dir_ports p
  simp only [Route.carryOut, allocate, hfree, claimSlot_unit, hfar]
  rfl

end

/-! ### Replies at their entry -/

/-- A reply is good by its entry's kind and record (04 R67). -/
theorem goodReply_iff (x : Entry) (k : Packet) : goodReply x k = true ↔
    (x.kind = .get ∧ k.kind = .data ∧ x.nextPart = some k.part ∧
      (k.topInfo = false → x.delivered + k.blocks.toNat ≤ x.reqBlocks) ∧
      (k.topInfo = true → x.delivered + k.blocks.toNat = x.reqBlocks)) ∨
    ((x.kind = .get ∨ x.kind = .set) ∧ k.kind = .done ∧ k.blocks = 0) ∨ (x.kind = .manage ∧ k.kind = .done) := by
  have hzero : k.blocks.toNat = 0 ↔ k.blocks = 0 := BitVec.toNat_inj (y := 0)
  cases hx : x.kind <;> cases hk : k.kind <;> simp [goodReply, hx, hk, hzero]
  case get.data => cases k.topInfo <;> simp

/-- A record of a discarded reply carries the reply's own tag, which is the entry's index (04 Table 4-3). -/
theorem replyRecord_eq {p : Port} {e : Fin 64} {k : Packet} (htag : k.tag.toNat = e.val) (kind : RecordKind)
    (now : Time) (slot : Option (Fin 32)) (st : Option (BitVec 4)) :
    replyRecord kind p.replyTable e k now slot st =
      { bareRecord kind p now with src := some k.src, tag := some k.tag, slot := slot, status := st } := by
  have hport : p.replyTable.farPort = p := by cases p <;> rfl
  rw [replyRecord, hport, ← htag, BitVec.ofNat_toNat, BitVec.setWidth_eq]

theorem doneStatus_eq (k : Packet) : doneStatus k = if k.kind = .done then some k.status else none := by
  simp [doneStatus]

/-- The LATE_REPLY record of a reply taken at a port for an entry (04 Table 4-3). -/
def lateRecord (b : Bridge) (p : Port) (e : Fin 64) (k : Packet) : Record :=
  { bareRecord .lateReply p b.timeBase with
    src := some k.src, tag := some k.tag, slot := (b.entry p.replyTable e).slot,
    status := if k.kind = .done then some k.status else none }

section
variable {b : Bridge} {d : Dir} {e : Fin 64}

theorem restoreReply_final {k : Packet} (hfinal : k.final = true) : restoreReply d e k b =
    freeEntry d e (push (Push.plain d.requesterPort (restored (b.entry d e) k)) b) := by
  rw [restoreReply, if_pos hfinal]

theorem restoreReply_part {k : Packet} (hfinal : k.final = false) : restoreReply d e k b =
    (push (Push.plain d.requesterPort (restored (b.entry d e) k)) b).setEntry d e ((b.entry d e).advance k) := by
  rw [restoreReply, if_neg (Bool.eq_false_iff.mp hfinal)]

theorem dropReply_stray {p : Port} {k : Packet} (htag : k.tag.toNat = e.val)
    (h : (b.entry p.replyTable e).state = .free ∨ (b.entry p.replyTable e).pos ≠ .sent) :
    dropReply p.replyTable e k b = raise { bareRecord .strayReply p b.timeBase with
      src := some k.src, tag := some k.tag, status := if k.kind = .done then some k.status else none } b := by
  rw [dropReply, if_pos (by simpa using h), replyRecord_eq htag, doneStatus_eq]
  rfl

theorem dropReply_waiting {p : Port} {k : Packet} (htag : k.tag.toNat = e.val)
    (hst : (b.entry p.replyTable e).state = .waiting) (hpos : (b.entry p.replyTable e).pos = .sent) :
    dropReply p.replyTable e k b = raise { bareRecord .malformed p b.timeBase with
        src := some k.src, tag := some k.tag, slot := (b.entry p.replyTable e).slot, status := some 1 }
      (owe p.replyTable e .failed b) := by
  simp [dropReply, hst, hpos, Status.code, replyRecord_eq htag]

theorem dropReply_returning {p : Port} {k : Packet} (htag : k.tag.toNat = e.val)
    (hst : (b.entry p.replyTable e).state = .returning) (hpos : (b.entry p.replyTable e).pos = .sent) :
    dropReply p.replyTable e k b = raise (lateRecord b p e k)
      (b.setEntry p.replyTable e
        { b.entry p.replyTable e with replySeen := (b.entry p.replyTable e).replySeen || k.final }) := by
  simp [dropReply, hst, hpos, replyRecord_eq htag, doneStatus_eq, lateRecord]

theorem dropReply_quarantine {p : Port} {k : Packet} (htag : k.tag.toNat = e.val)
    (hst : (b.entry p.replyTable e).state = .quarantine) (hpos : (b.entry p.replyTable e).pos = .sent) :
    dropReply p.replyTable e k b = raise (lateRecord b p e k) (if k.final then freeEntry p.replyTable e b else b) := by
  simp [dropReply, hst, hpos, replyRecord_eq htag, doneStatus_eq, lateRecord]

theorem takeNotice_waiting (final : Bool) (hst : (b.entry d e).state = .waiting) (hpos : (b.entry d e).pos = .sent) :
    takeNotice d e final b = owe d e .failed b := by
  simp [takeNotice, hst, hpos]

theorem takeNotice_returning (final : Bool) (hst : (b.entry d e).state = .returning)
    (hpos : (b.entry d e).pos = .sent) : takeNotice d e final b =
      b.setEntry d e { b.entry d e with replySeen := (b.entry d e).replySeen || final } := by
  simp [takeNotice, hst, hpos]

theorem takeNotice_quarantine (final : Bool) (hst : (b.entry d e).state = .quarantine)
    (hpos : (b.entry d e).pos = .sent) : takeNotice d e final b = if final then freeEntry d e b else b := by
  simp [takeNotice, hst, hpos]

theorem takeNotice_unsent (final : Bool) (h : (b.entry d e).state = .free ∨ (b.entry d e).pos ≠ .sent) :
    takeNotice d e final b = b := by
  rcases h with hst | hpos
  · simp [takeNotice, hst]
  · simp [takeNotice, hpos]

end

/-! ### Malformed packets -/

/-- A packet is malformed when it breaks a row of 01 Table 1-4. -/
theorem malformed_iff (p : Port) (k : Packet) : malformed p k = true ↔
    k.kind = .none7 ∨ 4 < k.blocks.toNat ∨ (k.kind ≠ .get ∧ k.speculative = true) ∨
    ((k.kind = .put ∨ k.kind = .set) ∧ k.blocks.toNat ≠ (k.len.toNat + 1 + 63) / 64) ∨
    (k.kind = .get ∧ k.blocks ≠ 0) ∨
    ((k.kind = .put ∨ k.kind = .get ∨ k.kind = .set) ∧ 4096 < k.addr.toNat % 4096 + (k.len.toNat + 1)) ∨
    (k.kind = .signal ∧ (k.blocks ≠ 0 ∨ p = .root ∨ k.line = 0)) ∨ (k.kind = .data ∧ k.blocks = 0) ∨
    (k.kind = .done ∧ 10 < k.status.toNat) := by
  have hzero : k.blocks.toNat = 0 ↔ k.blocks = 0 := BitVec.toNat_inj (y := 0)
  cases hkind : k.kind <;> simp [malformed, hkind, hzero, blocksOf, Packet.length, or_assoc]

/-! ### Two packets pushed, in the words of the statements -/

theorem discardRecord_eq_lostPacket (b : Bridge) (p : Port) (k : Packet) : discardRecord p k b.timeBase =
    lostPacket b p k.src (if k.kind = .put ∨ k.kind = .get ∨ k.kind = .set then some k.addr else none)
      (if k.kind = .get ∨ k.kind = .set ∨ k.kind = .data ∨ k.kind = .done then some k.tag else none)
      (if k.kind = .done then some k.status else none) := by
  cases hkind : k.kind <;> simp [discardRecord, lostPacket, hkind, bareRecord]

/-- The reply of a LINK_PARK drain that fails (08 R142, 10 Table 10-4). -/
theorem reply_of_park {d : Deferred} {q : Port} {bound : Time} (h : d.op = .park q bound) (unit : UnitNo) :
    d.reply unit .busy [] =
      { port := d.port, pkt := replyPacket unit d.src d.tag 11 .busy [], immediate := false } := by
  simp [Deferred.reply, h, DeferredOp.code]

theorem port_eq_or_other (p q : Port) : q = p ∨ q = p.other := by
  cases p <;> cases q <;> simp [Port.other]

theorem port_other_ne (p : Port) : p.other ≠ p := by cases p <;> simp [Port.other]

/-! ### The statements -/

/-- Settles O30: by lookup and miss policy, and there by the state of the port the PUT leaves at. -/
theorem takePutRoutes : Obligations.TakePutRoutes := by
  unfold Obligations.TakePutRoutes
  refine ⟨removePacket_eq, fun p k rest s hrun => ?_⟩
  intro b hpool hkind hwf done forward
  have hcls : k.cls = .stream := by rw [Packet.cls, hkind]; rfl
  have hcontains : [Kind.put].contains k.kind = true := by rw [hkind]; rfl
  have hdone {r : Route} (hroute : routePut b p k = r) (hready : r.ready b = true) : done (r.carryOut b) :=
    congrArg _ (head_taken hrun hpool hcontains hwf ((routeOf_put hwf hkind).trans hroute) hready)
  have hforward {a : Addr} (hroute : routePut b p k = forwardPut b p k a) : forward a := by
    have hplaces : (Route.single (Push.plain p.other { k with addr := a })).ready b = b.hasPlace p.other .stream :=
      (ready_single _).trans (congrArg _ hcls)
    refine ⟨fun hup hroom => hdone (hroute.trans (forwardPut_of_up hup a)) (hplaces.trans (hasPlace_of_room hroom)),
      fun hdown => hdone (hroute.trans (forwardPut_of_down hdown a)) rfl, fun hup hfull => ?_⟩
    exact congrArg _ (head_stays hrun hpool hcontains hwf
      ((routeOf_put hwf hkind).trans (hroute.trans (forwardPut_of_up hup a)))
      (hplaces.trans (not_hasPlace hup hfull)))
  have hallowed (w : WindowRecord) : b.allowed w k = (b.member k.src w.group && w.writeAllowed) :=
    allowed_of_not_get (by simp [hkind])
  refine ⟨fun i hhit hmember hwrite => hforward ?_, fun i hhit hdenied => hdone (r := .discard _) ?_ rfl,
    fun hmiss hpolicy => hforward (routePut_of_pass hmiss hpolicy), fun hmiss hpolicy hplace =>
      hdone (routePut_of_reflect hmiss hpolicy) ?_,
    fun hmiss hpolicy => hdone (routePut_of_reject hmiss hpolicy) rfl⟩
  · rw [routePut_of_hit hhit, hallowed, hmember, hwrite]
    rfl
  · have hfails : b.allowed (b.slot i).window k = false := by
      rw [hallowed]
      rcases hdenied with h | h <;> simp [b, h]
    rw [routePut_of_hit hhit, hfails]
    rfl
  · exact (ready_single _).trans ((congrArg _ hcls).trans hplace)

/-- Settles O31. Two packets pushed in one event are the subject of PushedPackets; then by what the window permits,
and there by the state of the port the query leaves at. -/
theorem takeGetSetThroughWindow : Obligations.TakeGetSetThroughWindow := by
  unfold Obligations.TakeGetSetThroughWindow
  refine ⟨fun x y b hports hup => ?_, fun _ _ _ _ => rfl,
    fun b d => ⟨freeEntry?_eq_some_iff b d, freeEntry?_eq_none_iff b d⟩, fun p k rest i s hrun => ?_⟩
  · intro t entered lost
    have hlost : lost = discardRecord y.port y.pkt b.timeBase := (discardRecord_eq_lostPacket ..).symm
    have hentered {z : Push} (h : b.queue z.port z.cls ++ [admitted z b] <+: t.queue z.port z.cls) : entered z := by
      obtain ⟨formed, h⟩ := h
      exact ⟨formed, by rw [← h, List.append_assoc]; rfl⟩
    have hne : y.port ≠ x.port := hports ▸ port_other_ne x.port
    refine ⟨hentered (pushBoth_stands_first y hup), fun hupy => hentered (pushBoth_stands_second hne hup hupy),
      fun hdown => ⟨hlost ▸ pushBoth_lost hup hdown, (pushBoth_effects x y b).adds.down _ hdown⟩,
      fun hno hnoy hupy => pushBoth_of_noDrain hup hupy hno hnoy, fun hno hdown => ?_, fun q d bound hq hd hop => ?_⟩
    · rw [hlost, ← follow_place_of_noDrain hup hno]
      exact pushBoth_of_down hup hdown
    · rw [← reply_of_park hop]
      exact pushBoth_fails_drains (hports ▸ port_eq_or_other x.port q) hq hd
  · intro b hpool hkind hwf hhit w permitted speculates finish answer
    have hfinish {r : Route} (hroute : routeGetSet b p k = r) (hready : r.ready b = true) : finish (r.carryOut b) :=
      getSet_taken hrun hpool hkind hwf hroute hready
    refine ⟨fun hdenied hplace => hfinish (routeGetSet_of_denied hhit hdenied) ((ready_answerWith ..).trans hplace),
      fun hyes hspec hplace => hfinish (routeGetSet_of_declined hhit hyes hspec) ((ready_answerWith ..).trans hplace),
      fun hyes hspec hdown hplace => hfinish (routeGetSet_of_otherDown hhit hyes hspec hdown)
        ((ready_answerWith ..).trans hplace),
      fun hyes hset hearly hup hroom hplace => hfinish
        ((routeGetSet_of_earlyAck hhit hyes hset hearly).trans (earlyAckRoute_of_up hup _)) ?_,
      fun e hyes hspec hnot hup hroom hfree => ?_⟩
    · rw [ready_earlyAck, Bool.and_eq_true]
      exact ⟨hasPlace_of_room hroom, hplace⟩
    · have hforward := hfinish ((routeGetSet_of_forward hhit hyes hspec hnot).trans (forwardQuery_of_up hup _ _))
        (ready_forward hroom hfree _ _)
      rw [carryOut_entry hfree,
        entry_allocated_of_getSet (k := k.moved ((b.slot i).window.translate k.addr)) hkind] at hforward
      exact hforward

/-- Settles O32: by the miss policy, and under PASS by the state of the port the query leaves at. -/
theorem takeGetSetOnMiss : Obligations.TakeGetSetOnMiss := by
  unfold Obligations.TakeGetSetOnMiss
  refine ⟨entry_allocated_eq, fun p k rest s hrun => ?_⟩
  intro b hpool hkind hwf hmiss finish
  have hcls : k.cls = .query := by rcases hkind with h | h <;> rw [Packet.cls, h] <;> rfl
  have hfinish {r : Route} (hroute : routeGetSet b p k = r) (hready : r.ready b = true) : finish (r.carryOut b) :=
    getSet_taken hrun hpool hkind hwf hroute hready
  refine ⟨fun hpolicy hdown hplace => hfinish
      ((routeGetSet_of_pass hmiss hpolicy).trans (forwardQuery_of_down hdown _ _)) ((ready_answerWith ..).trans hplace),
    fun e hpolicy hup hroom hfree => ?_,
    fun hpolicy hplace => hfinish (routeGetSet_of_reflect hmiss hpolicy) ?_,
    fun hpolicy hplace => hfinish (routeGetSet_of_reject hmiss hpolicy) ((ready_answerWith ..).trans hplace)⟩
  · have hforward := hfinish ((routeGetSet_of_pass hmiss hpolicy).trans (forwardQuery_of_up hup _ _))
      (ready_forward hroom hfree _ _)
    rw [carryOut_entry hfree] at hforward
    exact hforward
  · exact (ready_single _).trans ((congrArg _ hcls).trans hplace)

/-- Settles O33: each clause is a route of a MANAGE, taken as the head or as the bypass candidate. -/
theorem takeManageRoutes : Obligations.TakeManageRoutes := by
  unfold Obligations.TakeManageRoutes
  refine ⟨fun b p k => ⟨ready_iff_needs b p k, fun q c => ?_⟩, fun b p c i k hk hunmet => ?_, candidate?_eq_some_iff,
    fun p k rest s hrun => ?_⟩
  · rw [mem_uses_iff, routeNeeds_routeOf]
  · exact takeAt_of_not_ready hk ((not_ready_iff_needs b p k).mpr hunmet)
  intro b command handOver
  have hclosed (hleaf : p = .leaf) (hshut : b.engine.leafOpen = false) : ¬(p = .root ∨ b.engine.leafOpen = true) := by
    simp [hleaf, hshut]
  have hhead {r : Route} (hpool : b.pool p .query = k :: rest) (hkind : k.kind = .manage)
      (hwf : malformed p k = false) (hroute : routeManage b p k = r) (hready : r.ready b = true) :
      exec (.takeManage p) s = .next { s with bridge := removePacket p .query 0 k (r.carryOut b) } :=
    congrArg _ (head_taken hrun hpool (by rw [hkind]; rfl) hwf ((routeOf_manage hwf hkind).trans hroute) hready)
  have hbypass {i : Nat} {c : Packet} {r : Route} (hcandidate : candidate? b p = some i)
      (hc : (b.pool p .query)[i]? = some c) (hwf : malformed p c = false)
      (hroute : c.dst = b.unit → routeManage b p c = r) (hready : r.ready b = true) :
      exec (.managementBypass p) s = .next { s with bridge := removePacket p .query i c (r.carryOut b) } := by
    obtain ⟨hkind, hdst⟩ := candidate_isManage hcandidate hc
    exact candidate_taken hrun hcandidate hc ((routeOf_manage hwf hkind).trans (hroute hdst)) hready
  refine ⟨fun hpool hkind hwf hdst hopen hroom =>
      hhead hpool hkind hwf (routeManage_of_open hdst hopen) (ready_engine hroom),
    fun hpool hkind hwf hdst hleaf hshut hplace =>
      hhead hpool hkind hwf (routeManage_of_closed hdst (hclosed hleaf hshut)) ((ready_answerWith ..).trans hplace),
    fun e hpool hkind hwf hdst hup hroom hfree => ?_,
    fun hpool hkind hwf hdst hdown hplace =>
      hhead hpool hkind hwf ((routeManage_of_other hdst).trans (forwardQuery_of_down hdown _ _))
        ((ready_answerWith ..).trans hplace),
    fun i c hcandidate hc hwf hopen hroom =>
      hbypass hcandidate hc hwf (fun hdst => routeManage_of_open hdst hopen) (ready_engine hroom),
    fun i c hcandidate hc hwf hleaf hshut hplace =>
      hbypass hcandidate hc hwf (fun hdst => routeManage_of_closed hdst (hclosed hleaf hshut))
        ((ready_answerWith ..).trans hplace),
    fun i c hcandidate hc hmal => ?_⟩
  · have hforward := hhead hpool hkind hwf ((routeManage_of_other hdst).trans (forwardQuery_of_up hup _ _))
      (ready_forward hroom hfree _ _)
    rw [carryOut_entry hfree] at hforward
    exact hforward
  · obtain ⟨hkind, -⟩ := candidate_isManage hcandidate hc
    exact candidate_taken hrun hcandidate hc ((routeOf_malformed hmal).trans (routeMalformed_of_manage hkind)) rfl

/-- Settles O35: by the entry the reply names, if any, and there by the entry's state. -/
theorem takeReplyByEntry : Obligations.TakeReplyByEntry := by
  unfold Obligations.TakeReplyByEntry
  refine ⟨goodReply_iff, fun p k rest s hrun => ?_⟩
  intro b d hpool hkind hwf finish status late
  have hcontains : [Kind.data, .done].contains k.kind = true := by rcases hkind with h | h <;> rw [h] <;> rfl
  have hfinish {r : Route} (hroute : routeReply b p k = r) (hready : r.ready b = true) : finish (r.carryOut b) :=
    congrArg _ (head_taken hrun hpool hcontains hwf ((routeOf_reply hwf hkind).trans hroute) hready)
  refine ⟨fun e hdst htag => ?_, fun hstray => ?_⟩
  · intro x sent
    have hnamed := routeReply_of_entry (p := p) (namedEntry_of_entry hdst htag)
    have hgood {b' : Bridge} (hst : x.state = .waiting) (hpos : x.pos = .sent) (hok : goodReply x k = true)
        (hplace : b.hasPlace d.requesterPort .reply = true) (hrestored : restoreReply d e k b = b') : finish b' :=
      hrestored ▸ hfinish (hnamed.trans (if_pos ((answersEntry_iff x k).mpr ⟨hst, hpos, hok⟩)))
        ((ready_restore d e k).trans hplace)
    have hbad {b' : Bridge} (hnot : ¬(x.state = .waiting ∧ x.pos = .sent ∧ goodReply x k = true))
        (hdropped : dropReply d e k b = b') : finish b' :=
      hdropped ▸ hfinish (r := .badReply d e k) (hnamed.trans (if_neg (mt (answersEntry_iff x k).mp hnot))) rfl
    refine ⟨fun hst hpos hok hplace hfinal => hgood hst hpos hok hplace (restoreReply_final hfinal),
      fun hst hpos hok hplace hfinal => hgood hst hpos hok hplace (restoreReply_part hfinal),
      fun hst hpos hnot => hbad (by simp [hnot]) (dropReply_waiting htag hst hpos),
      fun hst hpos => hbad (by simp [hst]) (dropReply_returning htag hst hpos),
      fun hst hpos hfinal => hbad (by simp [hst])
        ((dropReply_quarantine htag hst hpos).trans (congrArg (raise _) (if_pos hfinal))),
      fun hst hpos hfinal => hbad (by simp [hst])
        ((dropReply_quarantine htag hst hpos).trans (congrArg (raise _) (if_neg (Bool.eq_false_iff.mp hfinal)))),
      fun hunsent => hbad ?_ (dropReply_stray htag hunsent)⟩
    rintro ⟨hst, hpos, -⟩
    rcases hunsent with hfree | hunsent
    · rw [hst] at hfree
      cases hfree
    · exact hunsent hpos
  · exact hfinish (routeReply_of_stray (namedEntry_of_none hstray)) rfl

/-- Settles O36: by the kind of the packet, and for a reply by the entry it names. -/
theorem takeMalformedDiscards : Obligations.TakeMalformedDiscards := by
  unfold Obligations.TakeMalformedDiscards
  refine ⟨malformed_iff, fun d e final b => ⟨takeNotice_waiting final, takeNotice_returning final, ?_, ?_,
    takeNotice_unsent final⟩, fun p c k rest s hrun => ?_⟩
  · intro hst hpos hfinal
    rw [takeNotice_quarantine final hst hpos, if_pos hfinal]
  · intro hst hpos hfinal
    rw [takeNotice_quarantine final hst hpos, if_neg (Bool.eq_false_iff.mp hfinal)]
  intro b hpool hmal finish record
  have hfinish {r : Route} (hroute : routeMalformed b p k = r) (hready : r.ready b = true) : finish (r.carryOut b) :=
    malformed_taken hrun hpool hmal ((routeOf_malformed hmal).trans hroute) hready
  exact ⟨fun hkind hplace => hfinish (routeMalformed_of_getSet hkind) ((ready_answerWith ..).trans hplace),
    fun hkind => hfinish (routeMalformed_of_put hkind) rfl,
    fun hkind => hfinish (routeMalformed_of_signal hkind) rfl,
    fun hkind => hfinish (routeMalformed_of_manage hkind) rfl,
    fun hkind hnone => hfinish (routeMalformed_of_stray hkind (namedEntry_of_none hnone)) rfl,
    fun e hkind hdst htag => hfinish (routeMalformed_of_entry hkind (namedEntry_of_entry hdst htag)) rfl⟩

end Sys2Proof.TakenPackets
end

section
/-! The Query Tables (O37, O39, O44): an entry's timers, the DONE a RETURNING entry owes, and the settings of TIMER_SET
and ACCESS_SET. What each row does is said once, by the branch it takes; then the statement, by those branches. -/

namespace Sys2Proof.QueryTables

open Sys2Proof.Machine Sys2Proof.Safety Sys2Proof.Laws Sys2Proof.WindowTable

/-! ### Events under a condition -/

section
variable {s : State} {due : Bridge → Prop} [DecidablePred due] {effect : Bridge → Bridge}

theorem event_of_due (hrun : running s) (hdue : due s.bridge) :
    s.event (fun b => if due b then effect b else b) = { s with bridge := effect s.bridge } := by
  rw [event_high s _ hrun, State.onBridge, if_pos hdue]

/-- An event whose condition does not hold leaves the state as it is (log 1). -/
theorem event_of_not_due (hrun : running s) (hdue : ¬due s.bridge) :
    s.event (fun b => if due b then effect b else b) = s := by
  rw [event_high s _ hrun, State.onBridge, if_neg hdue]

end

/-! ### The timers of an entry -/

section
variable {s : State} {d : Dir} {e : Fin 64}

theorem exec_deadlinePasses (hrun : running s) (hst : (s.bridge.entry d e).state = .waiting)
    (hend : reached s.bridge.timeBase (s.bridge.entry d e).deadline = true) :
    exec (.deadlinePasses d e) s = .next { s with bridge := passDeadline d e s.bridge } :=
  congrArg _ (event_of_due hrun ⟨hst, hend⟩)

theorem exec_deadlinePasses_idle (hrun : running s) (hst : (s.bridge.entry d e).state ≠ .waiting) :
    exec (.deadlinePasses d e) s = .next s :=
  congrArg _ (event_of_not_due hrun fun ⟨hwaiting, _⟩ => hst hwaiting)

theorem exec_quarantineEndPasses (hrun : running s) (hst : (s.bridge.entry d e).state = .quarantine)
    (hend : reached s.bridge.timeBase (s.bridge.entry d e).quarEnd = true) :
    exec (.quarantineEndPasses d e) s = .next { s with bridge := passQuarantine d e s.bridge } :=
  congrArg _ (event_of_due hrun ⟨hst, hend⟩)

theorem exec_quarantineEndPasses_idle (hrun : running s) (hst : (s.bridge.entry d e).state ≠ .quarantine) :
    exec (.quarantineEndPasses d e) s = .next s :=
  congrArg _ (event_of_not_due hrun fun ⟨hquarantine, _⟩ => hst hquarantine)

end

section
variable {b : Bridge} {d : Dir} {e : Fin 64}

theorem passQuarantine_sent (hpos : (b.entry d e).pos = .sent) : passQuarantine d e b =
    raise (timerRecord .lostReply d e (b.entry d e) b.timeBase none) (freeEntry d e b) := by
  simp only [passQuarantine, hpos]

theorem passQuarantine_queued (hpos : (b.entry d e).pos = .queued) : passQuarantine d e b =
    b.setEntry d e { b.entry d e with quarEnd := afterMs b.timeBase b.quarantineMs } := by
  simp only [passQuarantine, hpos]

theorem passQuarantine_cleared (hpos : (b.entry d e).pos = .cleared) : passQuarantine d e b = freeEntry d e b := by
  simp only [passQuarantine, hpos]

end

/-- Settles O37: by the timer that passes, and for the quarantine end by the query position. -/
theorem entryTimersPass : Obligations.EntryTimersPass := by
  unfold Obligations.EntryTimersPass
  intro d e s hrun b x record
  have hquarantine {b' : Bridge} (hst : x.state = .quarantine) (hend : reached b.timeBase x.quarEnd = true)
      (heffect : passQuarantine d e b = b') : exec (.quarantineEndPasses d e) s = .next { s with bridge := b' } :=
    heffect ▸ exec_quarantineEndPasses hrun hst hend
  exact ⟨exec_deadlinePasses hrun,
    fun hst hend hpos => hquarantine hst hend (passQuarantine_sent hpos),
    fun hst hend hpos => hquarantine hst hend (passQuarantine_queued hpos),
    fun hst hend hpos => hquarantine hst hend (passQuarantine_cleared hpos),
    exec_deadlinePasses_idle hrun, exec_quarantineEndPasses_idle hrun⟩

/-! ### The DONE a RETURNING entry owes -/

theorem returning?_eq_some_iff (b : Bridge) (d : Dir) (e : Fin 64) : b.returning? d = some e ↔
    (b.entry d e).state = .returning ∧ ∀ e', (b.entry d e').state = .returning → e ≤ e' := by
  simpa only [Bridge.returning?, beq_iff_eq] using
    find?_finRange_eq_some_iff (fun i => (b.entry d i).state == .returning) e

theorem owedDone_of_owed {x : Entry} {status : Status} (howed : x.owed = some status) (unit : UnitNo) :
    owedDone unit x = donePacket unit x.reqUnit x.reqTag status := by
  rw [owedDone, howed, Option.getD_some]

theorem entry_of_pushKeeps {b t : Bridge} (h : PushKeeps b t) (d : Dir) (e : Fin 64) : t.entry d e = b.entry d e := by
  rw [Bridge.entry, h.tables, Bridge.entry]

/-- The quarantine of an entry does not depend on what was pushed before it in the event. -/
theorem quarantine_of_pushKeeps {b t : Bridge} (h : PushKeeps b t) (d : Dir) (e : Fin 64) :
    quarantine d e t = t.setEntry d e { b.entry d e with
      state := .quarantine, owed := none, replySeen := false, quarEnd := afterMs b.timeBase b.quarantineMs } := by
  rw [quarantine, entry_of_pushKeeps h, h.timeBase, h.quarantineMs]

section
variable {b : Bridge} {d : Dir} {e : Fin 64} {status : Status} (howed : (b.entry d e).owed = some status)
include howed

theorem pushOwed_frees (hdone : (b.entry d e).replySeen = true ∨ (b.entry d e).pos = .cleared) : pushOwed d e b =
    freeEntry d e (push (Push.plain d.requesterPort
      (donePacket b.unit (b.entry d e).reqUnit (b.entry d e).reqTag status)) b) := by
  rw [pushOwed, if_pos (by simpa using hdone), owedDone_of_owed howed]

theorem pushOwed_quarantines (hseen : (b.entry d e).replySeen = false) (hpos : (b.entry d e).pos ≠ .cleared) :
    pushOwed d e b =
      (push (Push.plain d.requesterPort
        (donePacket b.unit (b.entry d e).reqUnit (b.entry d e).reqTag status)) b).setEntry d e { b.entry d e with
          state := .quarantine, owed := none, replySeen := false, quarEnd := afterMs b.timeBase b.quarantineMs } := by
  rw [pushOwed, if_neg (by simp [hseen, hpos]), owedDone_of_owed howed]
  exact quarantine_of_pushKeeps (push_keeps _ b) d e

end

section
variable {s : State} {d : Dir} {e : Fin 64}

/-- An owed DONE is pushed toward a DOWN port, or as the lowest of its table where its queue has a place (log 9). -/
theorem exec_returningDonePushed (hrun : running s) (hst : (s.bridge.entry d e).state = .returning)
    (hplace : s.bridge.isDown d.requesterPort = true ∨ (s.bridge.hasRoom d.requesterPort .reply = true ∧
      ∀ e', (s.bridge.entry d e').state = .returning → e ≤ e')) :
    exec (.returningDonePushed d e) s = .next { s with bridge := pushOwed d e s.bridge } :=
  congrArg _ (event_of_due hrun ⟨hst, hplace.imp_right fun ⟨hroom, hlowest⟩ =>
    ⟨hroom, (returning?_eq_some_iff ..).mpr ⟨hst, hlowest⟩⟩⟩)

theorem exec_returningDonePushed_waits (hrun : running s) (hup : s.bridge.isDown d.requesterPort = false)
    (hwait : s.bridge.hasRoom d.requesterPort .reply = false ∨
      ∃ e', e' < e ∧ (s.bridge.entry d e').state = .returning) :
    exec (.returningDonePushed d e) s = .next s := by
  refine congrArg _ (event_of_not_due hrun ?_)
  rintro ⟨-, hdown | ⟨hroom, hfirst⟩⟩
  · exact Bool.eq_false_iff.mp hup hdown
  · obtain ⟨-, hlowest⟩ := (returning?_eq_some_iff ..).mp hfirst
    rcases hwait with hfull | ⟨e', hlower, hst'⟩
    · exact Bool.eq_false_iff.mp hfull hroom
    · exact Fin.not_le.mpr hlower (hlowest e' hst')

end

/-- Settles O39: the push takes place or waits, and the pushed entry goes by what was seen of its query. -/
theorem returningDoneIsPushed : Obligations.ReturningDoneIsPushed := by
  unfold Obligations.ReturningDoneIsPushed
  refine ⟨fun d e s => exec_returningDonePushed_waits, fun d e status s hrun => ?_⟩
  intro b x hst howed hplace sent
  have hpushed : exec (.returningDonePushed d e) s = .next { s with bridge := pushOwed d e b } :=
    exec_returningDonePushed hrun hst hplace
  refine ⟨fun hdone => ?_, fun hseen hpos => ?_⟩
  · rw [hpushed, pushOwed_frees howed hdone]
  · rw [hpushed, pushOwed_quarantines howed hseen hpos]
    rfl

/-! ### TIMER_SET and ACCESS_SET -/

/-- A timer operand of 0–4,000: the present setting for 0, or its own number of ms (04 R78). -/
theorem timerGiven_of_le {v : Nat} (h : v ≤ 4000) :
    ∃ g, timerGiven v = some g ∧ ∀ now, g.getD now = if v = 0 then now else v := by
  by_cases hkeep : v = 0
  · exact ⟨none, by simp [timerGiven, hkeep], fun now => by simp [hkeep]⟩
  · exact ⟨some v, by simp [timerGiven, hkeep, Config.timerMax, h], fun now => by simp [hkeep]⟩

theorem timerGiven_none {v : Nat} (h : 4000 < v) : timerGiven v = none := by
  have hpos : v ≠ 0 := by omega
  simp [timerGiven, hpos, Config.timerMax, Nat.not_le.mpr h]

theorem timerSet_of_given {c : Command} {d q : Option Nat} (hd : timerGiven (c.num16 0) = some d)
    (hq : timerGiven (c.num16 2) = some q) (b : Bridge) : timerSetEffect c b =
      done (timerData (d.getD b.deadlineMs) (q.getD b.quarantineMs))
        { b with deadlineMs := d.getD b.deadlineMs, quarantineMs := q.getD b.quarantineMs } := by
  simp only [timerSetEffect, hd, hq]

theorem timerSet_range {c : Command} (h : 4000 < c.num16 0 ∨ 4000 < c.num16 2) (b : Bridge) :
    timerSetEffect c b = refuse .range b := by
  unfold timerSetEffect
  rcases h with h | h
  · rw [timerGiven_none h]
  · rw [timerGiven_none h]
    cases timerGiven (c.num16 0) <;> rfl

/-- An on/off operand of 0–2: off, on, or the present setting for 2 (10 R173). -/
theorem accessGiven_of_le {v : Nat} (h : v ≤ 2) : ∃ g, accessGiven v = some g ∧ ∀ now, g.getD now =
    if v = 0 then false else if v = 1 then true else now := by
  match v, h with
  | 0, _ => exact ⟨_, rfl, fun _ => rfl⟩
  | 1, _ => exact ⟨_, rfl, fun _ => rfl⟩
  | 2, _ => exact ⟨_, rfl, fun _ => rfl⟩

theorem accessGiven_none {v : Nat} (h : 3 ≤ v) : accessGiven v = none := by
  match v, h with
  | v + 3, _ => rfl

theorem flagByte_eq (x : Bool) : flagByte x = BitVec.ofNat 8 x.toNat := by
  cases x <;> rfl

theorem accessSet_of_given {c : Command} {l f : Option Bool} (hl : accessGiven (c.num 0) = some l)
    (hf : accessGiven (c.num 1) = some f) (b : Bridge) : accessSetEffect c b =
      done [BitVec.ofNat 8 (l.getD b.engine.leafOpen).toNat, BitVec.ofNat 8 (f.getD b.engine.resetForwarding).toNat]
        { b with engine := { b.engine with
          leafOpen := l.getD b.engine.leafOpen, resetForwarding := f.getD b.engine.resetForwarding } } := by
  simp only [accessSetEffect, hl, hf, flagByte_eq]

theorem accessSet_range {c : Command} (h : 3 ≤ c.num 0 ∨ 3 ≤ c.num 1) (b : Bridge) :
    accessSetEffect c b = refuse .range b := by
  unfold accessSetEffect
  rcases h with h | h
  · rw [accessGiven_none h]
  · rw [accessGiven_none h]
    cases accessGiven (c.num 0) <;> rfl

/-- Settles O44: each row writes and reports what its operands name, or refuses them. -/
theorem timerAndAccessSet : Obligations.TimerAndAccessSet := by
  unfold Obligations.TimerAndAccessSet
  intro s c
  refine ⟨fun _ => rfl, fun hready hd hq => ?_, fun hready hrange => ?_, fun hready hl hf => ?_,
    fun hready hrange => ?_⟩
  · obtain ⟨d, hdeadline, hgivenDeadline⟩ := timerGiven_of_le hd
    obtain ⟨q, hquarantine, hgivenQuarantine⟩ := timerGiven_of_le hq
    simp only [← hgivenDeadline, ← hgivenQuarantine]
    exact exec_of_effect hready rfl (timerSet_of_given hdeadline hquarantine s.bridge)
  · exact exec_of_effect hready rfl (timerSet_range hrange s.bridge)
  · obtain ⟨l, hleaf, hgivenLeaf⟩ := accessGiven_of_le hl
    obtain ⟨f, hforwarding, hgivenForwarding⟩ := accessGiven_of_le hf
    simp only [← hgivenLeaf, ← hgivenForwarding]
    exact exec_of_effect hready rfl (accessSet_of_given hleaf hforwarding s.bridge)
  · exact exec_of_effect hready rfl (accessSet_range hrange s.bridge)

end Sys2Proof.QueryTables
end

section
/-! Credit accounts (O58): every packet stands in the pool of its class, occupied counts the pool, and between two
trainings an account sums to its pool. What works on tables, lines and the engine touches the ports through pushes alone
(`PortsKept`), and most of the rest leaves what the invariant speaks of (`SameCredit`); a pool or an account is written
by a delivery, a taking, a CREDIT flit, a CONFIG flit and a reset. -/

namespace Sys2Proof.CreditAccounts

open Sys2Proof.Machine Sys2Proof.Safety Sys2Proof.Laws
open Sys2Proof.WindowReferences (verdictPart)

/-! ### The invariant, port by port -/

/-- The port states between a port's CONFIG flit and its next training. -/
def connected (x : LinkState) : Prop := x = .config ∨ x = .active ∨ x = .parked ∨ x = .waking

theorem not_connected_training : ¬connected .training := by simp [connected]

theorem not_connected_down : ¬connected .down := by simp [connected]

theorem connected_of_isActive {b : Bridge} {p : Port} (h : b.isActive p = true) : connected (b.port p).record.state :=
  .inr (.inl (beq_iff_eq.mp h))

/-- Each pool holds packets of its class, and occupied counts them (06 R102). -/
structure PoolsCounted (x : Ingress) : Prop where
  byClass : ∀ c, ∀ k ∈ x.pools.get c, k.cls = c
  occupied : ∀ c, (x.account.get c).occupied = poolCost (x.pools.get c)

/-- Every account sums to its pool of the active plan (06 R108). -/
def SumsToPlan (x : Ingress) : Prop := ∀ c, sumsToPool (x.account.get c) (x.activePlan.get c)

/-- What the invariant says of one port. -/
structure AccountsTrue (x : PortState) : Prop where
  counted : PoolsCounted x.ingress
  sums : connected x.record.state → SumsToPlan x.ingress

theorem creditInv_iff {b : Bridge} : CreditInv b ↔ ∀ p, AccountsTrue (b.port p) :=
  ⟨fun ⟨hclass, h⟩ p => ⟨⟨hclass p, fun c => (h p c).1⟩, fun hp c => (h p c).2 hp⟩,
    fun h => ⟨fun p => (h p).counted.byClass, fun p c => ⟨(h p).counted.occupied c, fun hp => (h p).sums hp c⟩⟩⟩

/-- An operation on one port keeps the invariant when it keeps it there. -/
theorem creditInv_of_port {b b' : Bridge} {p : Port} (h : CreditInv b) (hother : ∀ q, q ≠ p → b'.port q = b.port q)
    (hp : AccountsTrue (b'.port p)) : CreditInv b' := by
  rw [creditInv_iff] at h ⊢
  intro q
  by_cases hq : q = p
  · exact hq ▸ hp
  · exact hother q hq ▸ h q

/-! ### What touches the ports through pushes alone -/

/-- The port records stay, but that a push may start the wake of a PARKED port. -/
structure LinkKept (b b' : Bridge) : Prop where
  record : ∀ q, (b'.port q).record = { (b.port q).record with state := (b'.port q).record.state }
  linkState : ∀ q, b'.linkState q = b.linkState q ∨ (b.linkState q = .parked ∧ b'.linkState q = .waking)

/-- Port records and Ingress Buffers stay, but for such a wake. -/
structure PortsKept (b b' : Bridge) : Prop extends LinkKept b b' where
  ingress : ∀ q, (b'.port q).ingress = (b.port q).ingress

theorem LinkKept.trans {a b c : Bridge} (h : LinkKept a b) (k : LinkKept b c) : LinkKept a c := by
  refine ⟨fun q => by rw [k.record q, h.record q], fun q => ?_⟩
  rcases k.linkState q with hsame | ⟨hparked, hwaking⟩
  · rw [hsame]
    exact h.linkState q
  · rcases h.linkState q with hb | ⟨_, hb⟩
    · exact .inr ⟨hb.symm.trans hparked, hwaking⟩
    · rw [hb] at hparked
      cases hparked

/-- A port that is DOWN keeps its record. -/
theorem LinkKept.of_down {b b' : Bridge} (h : LinkKept b b') {q : Port} (hdown : b.linkState q = .down) :
    (b'.port q).record = (b.port q).record := by
  rcases h.linkState q with hsame | ⟨hparked, _⟩
  · have hstate : (b'.port q).record.state = (b.port q).record.state := hsame
    rw [h.record q, hstate]
  · rw [hdown] at hparked
    cases hparked

theorem LinkKept.of_records {b b' : Bridge} (h : ∀ q, (b'.port q).record = (b.port q).record) : LinkKept b b' :=
  ⟨fun q => by rw [h q], fun q => .inl (congrArg PortRecord.state (h q))⟩

theorem PortsKept.of_ports {b b' : Bridge} (h : b'.ports = b.ports) : PortsKept b b' := by
  have hport (q : Port) : b'.port q = b.port q := congrArg (·.get q) h
  exact ⟨.of_records fun q => by rw [hport q], fun q => by rw [hport q]⟩

theorem PortsKept.refl (b : Bridge) : PortsKept b b := .of_ports rfl

theorem PortsKept.trans {a b c : Bridge} (h : PortsKept a b) (k : PortsKept b c) : PortsKept a c :=
  ⟨h.toLinkKept.trans k.toLinkKept, fun q => (k.ingress q).trans (h.ingress q)⟩

theorem PortsKept.of_pushKeeps {b b' : Bridge} (k : PushKeeps b b') : PortsKept b b' :=
  ⟨⟨k.record, k.linkState⟩, k.ingress⟩

theorem PortsKept.push {a b b' : Bridge} (h : PortsKept a b) (k : PushKeeps b b') : PortsKept a b' :=
  h.trans (.of_pushKeeps k)

theorem PortsKept.rest {a b b' : Bridge} (h : PortsKept a b) (k : b'.ports = b.ports) : PortsKept a b' :=
  h.trans (.of_ports k)

theorem PortsKept.foldl {α : Type} {f : Bridge → α → Bridge} (hf : ∀ x b, PortsKept b (f b x)) (l : List α)
    (b : Bridge) : PortsKept b (l.foldl f b) := by
  induction l generalizing b with
  | nil => exact .refl b
  | cons x l ih => exact (hf x b).trans (ih (f b x))

/-! ### Operations on tables, lines and the engine -/

theorem tick_kept (b : Bridge) : PortsKept b b.tick := by
  unfold Bridge.tick
  split
  · exact .refl b
  · exact .of_ports rfl

theorem releaseSlot_kept (i : Fin 32) (b : Bridge) : PortsKept b (releaseSlot i b) := by
  unfold releaseSlot
  dsimp only
  split
  · exact (PortsKept.of_ports (ports_setSlot ..)).push (answerRetire_keeps i _)
  · exact .of_ports rfl

theorem freeEntry_kept (d : Dir) (e : Fin 64) (b : Bridge) : PortsKept b (freeEntry d e b) := by
  unfold freeEntry
  dsimp only
  split
  · exact .of_ports rfl
  · exact (PortsKept.of_ports (ports_setEntry ..)).trans (releaseSlot_kept _ _)

theorem pushOwed_kept (d : Dir) (e : Fin 64) (b : Bridge) : PortsKept b (pushOwed d e b) := by
  have hpushed := PortsKept.of_pushKeeps (push_keeps (Push.plain d.requesterPort (owedDone b.unit (b.entry d e))) b)
  unfold pushOwed
  dsimp only
  split
  · exact hpushed.trans (freeEntry_kept d e _)
  · exact hpushed.rest rfl

theorem allocate_kept (d : Dir) (k : Packet) (slot : Option (Fin 32)) (b : Bridge) :
    PortsKept b (allocate d k slot b) := by
  unfold allocate
  split
  · exact .refl b
  · refine (PortsKept.of_ports ?_).push (push_keeps _ _)
    cases slot <;> rfl

theorem takeLevel_kept (i : Fin 64) (level : Bool) (unit : UnitNo) (b : Bridge) :
    PortsKept b (takeLevel i level unit b) := by
  unfold takeLevel
  split
  · exact .of_pushKeeps ((setLine_keeps b i _).trans (notifyIfDue_keeps i _))
  · exact .of_pushKeeps ((setLine_keeps b i _).trans (cancelNotification_keeps i _))

theorem restoreReply_kept (d : Dir) (e : Fin 64) (k : Packet) (b : Bridge) : PortsKept b (restoreReply d e k b) := by
  have hpushed := PortsKept.of_pushKeeps (push_keeps (Push.plain d.requesterPort (restored (b.entry d e) k)) b)
  unfold restoreReply
  dsimp only
  split
  · exact hpushed.trans (freeEntry_kept d e _)
  · exact hpushed.rest rfl

theorem dropReply_kept (d : Dir) (e : Fin 64) (k : Packet) (b : Bridge) : PortsKept b (dropReply d e k b) := by
  unfold dropReply
  dsimp only
  split
  · exact .of_pushKeeps (raise_keeps _ b)
  split
  · exact ((PortsKept.refl b).rest (b' := owe d e .failed b) rfl).push (raise_keeps _ _)
  · exact (PortsKept.of_ports (ports_setEntry ..)).push (raise_keeps _ _)
  · refine PortsKept.push ?_ (raise_keeps _ _)
    split
    · exact freeEntry_kept d e b
    · exact .refl b
  · exact .refl b

theorem takeNotice_kept (d : Dir) (e : Fin 64) (final : Bool) (b : Bridge) :
    PortsKept b (takeNotice d e final b) := by
  unfold takeNotice
  dsimp only
  split
  · exact .refl b
  split
  · exact .refl b
  · exact .of_ports rfl
  · exact .of_ports rfl
  · split
    · exact freeEntry_kept d e b
    · exact .refl b

/-- A route pushes, hands over and allocates; the packet it takes leaves its pool afterwards (03 R42). -/
theorem carryOut_kept (r : Route) (b : Bridge) : PortsKept b (r.carryOut b) := by
  cases r with
  | single x => exact .of_pushKeeps (push_keeps x b)
  | entry d k slot => exact allocate_kept d k slot b
  | earlyAck x y => exact .of_pushKeeps (pushBoth_keeps x y b)
  | answer x rec => exact .of_pushKeeps ((push_keeps x b).trans (raiseIf_keeps rec _))
  | engine c => exact .of_ports rfl
  | signal i level unit => exact takeLevel_kept i level unit b
  | restore d e k => exact restoreReply_kept d e k b
  | badReply d e k => exact dropReply_kept d e k b
  | discard rec => exact .of_pushKeeps (raise_keeps rec b)
  | notice rec d e final => exact (takeNotice_kept d e final b).push (raise_keeps rec _)

theorem farPortLost_kept (d : Dir) (e : Fin 64) (b : Bridge) : PortsKept b (farPortLost d e b) := by
  unfold farPortLost
  dsimp only
  generalize (if (b.entry d e).pos == .queued then { b.entry d e with pos := .cleared } else b.entry d e) = x
  split
  · exact .refl b
  · exact .of_ports rfl
  · exact .of_ports rfl
  · split
    · exact (PortsKept.of_ports (ports_setEntry ..)).trans (freeEntry_kept d e _)
    · exact .refl b

theorem downEntryReset_kept (e : Fin 64) (b : Bridge) : PortsKept b (downEntryReset e b) := by
  unfold downEntryReset
  dsimp only
  split
  · exact .of_ports rfl
  · split
    · exact freeEntry_kept _ e b
    · exact .of_ports rfl
  · exact .refl b
  · exact .refl b

theorem upEntryReset_kept (e : Fin 64) (b : Bridge) : PortsKept b (upEntryReset e b) := by
  unfold upEntryReset
  dsimp only
  split
  · exact .refl b
  · exact .of_ports rfl
  · exact .of_ports rfl
  · exact freeEntry_kept _ e b

theorem resetTables_kept (forwarding : Bool) (b : Bridge) : PortsKept b (resetTables forwarding b) := by
  unfold resetTables
  split
  · exact (PortsKept.foldl (freeEntry_kept .down) _ b).trans (PortsKept.foldl (freeEntry_kept .up) _ _)
  · exact (PortsKept.foldl downEntryReset_kept _ b).trans (PortsKept.foldl upEntryReset_kept _ _)

theorem enterFlushRecords_kept (rs : List Record) (b : Bridge) : PortsKept b (enterFlushRecords rs b) :=
  ((PortsKept.refl b).rest (b' := { b with freeCtr := b.freeCtr + rs.length }) rfl).trans
    (PortsKept.foldl (fun r b => .of_pushKeeps (enterRecord_keeps b r)) _ _)

theorem passDeadline_kept (d : Dir) (e : Fin 64) (b : Bridge) : PortsKept b (passDeadline d e b) :=
  ((PortsKept.refl b).rest (b' := owe d e .timeout b) rfl).push (raise_keeps _ _)

theorem passQuarantine_kept (d : Dir) (e : Fin 64) (b : Bridge) : PortsKept b (passQuarantine d e b) := by
  unfold passQuarantine
  dsimp only
  split
  · exact (freeEntry_kept d e b).push (raise_keeps _ _)
  · exact .of_ports rfl
  · exact freeEntry_kept d e b

theorem queryTransmitted_kept (m : Mark) (b : Bridge) : PortsKept b (queryTransmitted m b) := by
  unfold queryTransmitted
  dsimp only
  split
  · exact .refl b
  · exact .of_ports rfl

/-! ### What leaves the accounts -/

/-- A port's pools, accounts and active plan are as they were, and it has not come between trainings meanwhile. -/
structure SameAccounts (x y : PortState) : Prop where
  pools : y.ingress.pools = x.ingress.pools
  account : y.ingress.account = x.ingress.account
  plan : y.ingress.activePlan = x.ingress.activePlan
  epoch : connected y.record.state → connected x.record.state

theorem PoolsCounted.of_same {x y : PortState} (h : PoolsCounted x.ingress) (hs : SameAccounts x y) :
    PoolsCounted y.ingress := by
  constructor
  · rw [hs.pools]
    exact h.byClass
  · rw [hs.pools, hs.account]
    exact h.occupied

theorem AccountsTrue.of_same {x y : PortState} (h : AccountsTrue x) (hs : SameAccounts x y) : AccountsTrue y := by
  refine ⟨h.counted.of_same hs, fun hy c => ?_⟩
  rw [hs.account, hs.plan]
  exact h.sums (hs.epoch hy) c

/-- Both ports' accounts are as they were. -/
def SameCredit (b b' : Bridge) : Prop := ∀ q, SameAccounts (b.port q) (b'.port q)

theorem SameCredit.creditInv {b b' : Bridge} (hs : SameCredit b b') (h : CreditInv b) : CreditInv b' :=
  creditInv_iff.mpr fun q => (creditInv_iff.mp h q).of_same (hs q)

theorem PortsKept.same {b b' : Bridge} (h : PortsKept b b') : SameCredit b b' := by
  intro q
  refine ⟨by rw [h.ingress q], by rw [h.ingress q], by rw [h.ingress q], fun hq => ?_⟩
  rcases h.linkState q with hsame | ⟨hparked, _⟩
  · have hstate : (b'.port q).record.state = (b.port q).record.state := hsame
    exact hstate ▸ hq
  · exact .inr (.inr (.inl hparked))

theorem SameCredit.of_ports {b b' : Bridge} (h : b'.ports = b.ports) : SameCredit b b' := (PortsKept.of_ports h).same

theorem SameCredit.refl (b : Bridge) : SameCredit b b := .of_ports rfl

theorem SameCredit.trans {a b c : Bridge} (h : SameCredit a b) (k : SameCredit b c) : SameCredit a c := fun q =>
  ⟨(k q).pools.trans (h q).pools, (k q).account.trans (h q).account, (k q).plan.trans (h q).plan,
    fun hc => (h q).epoch ((k q).epoch hc)⟩

theorem SameCredit.of_pushKeeps {b b' : Bridge} (k : PushKeeps b b') : SameCredit b b' :=
  (PortsKept.of_pushKeeps k).same

/-! ### Chains of updates that leave the accounts -/

section
variable {a b : Bridge}

theorem SameCredit.push (h : SameCredit a b) {b' : Bridge} (k : PushKeeps b b') : SameCredit a b' :=
  h.trans (.of_pushKeeps k)

theorem SameCredit.rest (h : SameCredit a b) {b' : Bridge} (k : b'.ports = b.ports) : SameCredit a b' :=
  h.trans (.of_ports k)

theorem SameCredit.onPort (h : SameCredit a b) (p : Port) {f : PortState → PortState}
    (hf : SameAccounts (b.port p) (f (b.port p))) : SameCredit a (b.onPort p f) := by
  refine h.trans fun q => ?_
  by_cases hq : q = p
  · subst hq
    rwa [port_onPort_self]
  · rw [port_onPort_other b f hq]
    exact ⟨rfl, rfl, rfl, id⟩

theorem SameCredit.onSend (h : SameCredit a b) (p : Port) (f : SendSide → SendSide) : SameCredit a (b.onSend p f) :=
  h.onPort p ⟨rfl, rfl, rfl, id⟩

theorem SameCredit.onRecv (h : SameCredit a b) (p : Port) (f : RecvSide → RecvSide) : SameCredit a (b.onRecv p f) :=
  h.onPort p ⟨rfl, rfl, rfl, id⟩

theorem SameCredit.onTraining (h : SameCredit a b) (p : Port) (f : Training → Training) :
    SameCredit a (b.onTraining p f) :=
  h.onPort p ⟨rfl, rfl, rfl, id⟩

theorem SameCredit.onRecord (h : SameCredit a b) (p : Port) {f : PortRecord → PortRecord}
    (hf : connected (f (b.port p).record).state → connected (b.port p).record.state) : SameCredit a (b.onRecord p f) :=
  h.onPort p ⟨rfl, rfl, rfl, hf⟩

theorem SameCredit.setLinkState (h : SameCredit a b) (p : Port) {x : LinkState}
    (hx : connected x → connected (b.port p).record.state) : SameCredit a (b.setLinkState p x) :=
  h.onPort p ⟨rfl, rfl, rfl, hx⟩

theorem SameCredit.emit (h : SameCredit a b) (p : Port) (x : Sent) : SameCredit a (b.emit p x) :=
  h.onPort p ⟨rfl, rfl, rfl, id⟩

theorem SameCredit.setQueue (h : SameCredit a b) (p : Port) (c : Cls) (q : List Queued) :
    SameCredit a (b.setQueue p c q) :=
  h.onPort p ⟨rfl, rfl, rfl, id⟩

end

theorem SameCredit.foldl {α : Type} {f : Bridge → α → Bridge} (hf : ∀ x b, SameCredit b (f b x)) (l : List α)
    (b : Bridge) : SameCredit b (l.foldl f b) := by
  induction l generalizing b with
  | nil => exact .refl b
  | cons x l ih => exact (hf x b).trans (ih (f b x))

/-! ### Trainings and port states -/

theorem restartNumbers_same (p : Port) (b : Bridge) : SameCredit b (restartNumbers p b) :=
  (((SameCredit.refl b).onSend p _).onRecv p _).onTraining p _

theorem renumber_same (p : Port) (b : Bridge) : SameCredit b (renumber p b) :=
  ((SameCredit.refl b).onSend p _).onRecv p _

theorem endTraffic_same (p : Port) (b : Bridge) : SameCredit b (endTraffic p b) :=
  (((SameCredit.refl b).onRecv p _).onSend p _).push (endTraffic_keeps p b)

theorem beginAttempt_same (p : Port) (rate : Rate) (b : Bridge) : SameCredit b (beginAttempt p rate b) :=
  ((((SameCredit.refl b).onRecord p fun h => absurd h not_connected_training).onTraining p _).onPort p
    ⟨rfl, rfl, rfl, id⟩).emit p _

theorem beginTraining_same (p : Port) (cause : Cause) (carried : Rate) (b : Bridge) :
    SameCredit b (beginTraining p cause carried b) :=
  (((endTraffic_same p b).onRecord p id).onTraining p _).trans (beginAttempt_same p _ _)

/-- A training takes its port out of the reach of the sums until its next CONFIG flit. -/
theorem beginTraining_training (p : Port) (cause : Cause) (carried : Rate) (b : Bridge) :
    ((beginTraining p cause carried b).port p).record.state = .training := by
  rw [(beginTraining_begun p cause carried b).record]

theorem settleRetrain_same (p : Port) (b : Bridge) : SameCredit b (settleRetrain p b) := by
  unfold settleRetrain
  split
  · exact .of_pushKeeps (answerRetrain_keeps p _ _ b)
  split
  · exact (SameCredit.of_ports (ports_onEngine ..)).trans (beginTraining_same p _ _ _)
  · exact .refl b

theorem becomeActive_same {p : Port} {b : Bridge} (h : connected (b.port p).record.state) :
    SameCredit b (becomeActive p b) :=
  ((SameCredit.refl b).setLinkState p fun _ => h).onPort p ⟨rfl, rfl, rfl, id⟩

theorem wakeToActive_same {p : Port} {b : Bridge} (h : connected (b.port p).record.state) :
    SameCredit b (wakeToActive p b) :=
  (becomeActive_same h).trans (settleRetrain_same p _)

theorem enterActive_same {p : Port} (w : Width) {b : Bridge} (h : connected (b.port p).record.state) :
    SameCredit b (enterActive p w b) :=
  (((((becomeActive_same h).onRecord p id).onPort p ⟨rfl, rfl, rfl, id⟩).onTraining p _).onSend p _).trans
    (settleRetrain_same p _)

theorem emitConfig_same (p : Port) (ack : Option Seq) (c : ConfigFlit) (b : Bridge) :
    SameCredit b (emitConfig p ack c b) := by
  cases ack with
  | none => exact (SameCredit.refl b).emit p _
  | some n => exact ((SameCredit.refl b).emit p _).emit p _

theorem absorbConfig_same (p : Port) (c : ConfigFlit) (b : Bridge) : SameCredit b (absorbConfig p c b) := by
  have hnumbered : SameCredit b (if c.restart then renumber p b else b) := by
    split
    · exact renumber_same p b
    · exact .refl b
  unfold absorbConfig
  dsimp only
  generalize (if c.restart = true then renumber p b else b) = r at hnumbered
  have hacked : SameCredit b (match (r.port p).training.keptAck with
      | none => r
      | some n => r.onSend p (·.ackedAtConfig n)) := by
    split
    · exact hnumbered
    · exact hnumbered.onSend p _
  exact ((((hacked.onPort p ⟨rfl, rfl, rfl, id⟩).onSend p _).onRecv p _).onRecord p id).onTraining p _

/-- The port stays in its state while the CONFIG flit acts on its numbering and send account. -/
theorem absorbConfig_state (p : Port) (c : ConfigFlit) (b : Bridge) :
    ((absorbConfig p c b).port p).record.state = (b.port p).record.state := by
  have hnumbered : ((if c.restart then renumber p b else b).port p).record = (b.port p).record := by
    split
    · simp [renumber]
    · rfl
  unfold absorbConfig
  dsimp only
  generalize (if c.restart = true then renumber p b else b) = r at hnumbered
  split <;> simp [hnumbered]

theorem takePark_same {p : Port} {b : Bridge} (h : b.isActive p = true) : SameCredit b (takePark p b) := by
  unfold takePark
  split
  · exact ((SameCredit.refl b).setLinkState p fun _ => connected_of_isActive h).trans (endTraffic_same p _)
  · exact (SameCredit.refl b).emit p _

theorem takeWake_same (p : Port) (b : Bridge) : SameCredit b (takeWake p b) := by
  unfold takeWake
  split
  · next hparked =>
    have hwaking : connected ((b.startWake p).port p).record.state := by
      simp [Bridge.startWake, Bridge.emitInUse, connected]
    exact (SameCredit.of_pushKeeps (startWake_keeps b p hparked)).trans (wakeToActive_same hwaking)
  · next hwaking => exact wakeToActive_same (.inr (.inr (.inr hwaking)))
  all_goals exact .refl b

theorem parkPort_same {p : Port} {b : Bridge} (h : b.isActive p = true) : SameCredit b (parkPort p b) :=
  ((((SameCredit.refl b).setLinkState p fun _ => connected_of_isActive h).emit p _).onRecv p _).onSend p _

theorem canPark_active {p : Port} {b : Bridge} (h : canPark b p = true) : b.isActive p = true := by
  simp only [canPark, Bool.and_eq_true] at h
  exact h.1.1

theorem completePark_same {p : Port} {b : Bridge} (h : b.isActive p = true) : SameCredit b (completePark p b) := by
  unfold completePark
  split
  · exact .refl b
  · exact ((SameCredit.of_ports (ports_onEngine ..)).trans (parkPort_same h)).push (deliverWith_keeps push_keeps _ _ _)

/-! ### Flits and frames -/

theorem triggerReplay_same (p : Port) (b : Bridge) : SameCredit b (triggerReplay p b) := by
  unfold triggerReplay
  split
  · exact (SameCredit.refl b).onSend p _
  · exact (SameCredit.of_pushKeeps (raise_keeps _ b)).trans (beginTraining_same p _ _ _)

theorem takeNak_same (p : Port) (n : Seq) (b : Bridge) : SameCredit b (takeNak p n b) := by
  unfold takeNak
  dsimp only
  split
  · exact ((SameCredit.refl b).onSend p _).trans (triggerReplay_same p _)
  split
  · exact (SameCredit.refl b).onSend p _
  · exact (SameCredit.refl b).onSend p _

theorem meetAck_same (p : Port) (n : Seq) (b : Bridge) : SameCredit b (meetAck p n b) := by
  unfold meetAck
  split
  · exact (SameCredit.refl b).onSend p _
  · exact (SameCredit.refl b).onTraining p _
  · exact (SameCredit.refl b).onTraining p _
  all_goals exact .refl b

theorem repeatConfig_same (p : Port) (b : Bridge) : SameCredit b (repeatConfig p b) := by
  unfold repeatConfig
  split
  · exact .refl b
  · exact ((SameCredit.refl b).onTraining p _).trans (emitConfig_same p _ _ _)

theorem repeatWake_same (p : Port) (b : Bridge) : SameCredit b (repeatWake p b) :=
  ((SameCredit.refl b).onTraining p _).emit p _

theorem sendNak_same (p : Port) (b : Bridge) : SameCredit b (sendNak p b) :=
  ((SameCredit.refl b).emit p _).onRecv p _

theorem sendAck_same (p : Port) (b : Bridge) : SameCredit b (sendAck p b) :=
  ((SameCredit.refl b).emit p _).onRecv p _

theorem sendAnswer_same (p : Port) (b : Bridge) : SameCredit b (sendAnswer p b) := by
  unfold sendAnswer
  split
  · exact sendNak_same p b
  split
  · exact sendAck_same p b
  · exact .refl b

theorem transmit_same (p : Port) (c : Cls) (k : Packet) (b : Bridge) : SameCredit b (transmit p c k b) :=
  ((SameCredit.refl b).onPort p ⟨rfl, rfl, rfl, id⟩).emit p _

/-! ### Taking and delivering a packet -/

/-- The operation keeps the invariant. -/
def KeepsCredit (f : Bridge → Bridge) : Prop := ∀ b, CreditInv b → CreditInv (f b)

/-- One class's pool and account written together keep the invariant when the new occupied counts the new pool and the
new account sums to what the old one did. -/
theorem AccountsTrue.setClass {x y : PortState} (h : AccountsTrue x) (c : Cls) {ks : List Packet} {a : RxAccount}
    (hpools : y.ingress.pools = x.ingress.pools.set c ks) (haccount : y.ingress.account = x.ingress.account.set c a)
    (hplan : y.ingress.activePlan = x.ingress.activePlan) (hstate : y.record.state = x.record.state)
    (hclass : ∀ k ∈ ks, k.cls = c) (hoccupied : a.occupied = poolCost ks)
    (hsum : ∀ pool, sumsToPool (x.ingress.account.get c) pool → sumsToPool a pool) : AccountsTrue y := by
  constructor
  · constructor
    · intro d
      rw [hpools]
      by_cases hd : d = c
      · subst hd
        rwa [perClass_get_set_self]
      · rw [perClass_get_set_other _ _ hd]
        exact h.counted.byClass d
    · intro d
      rw [hpools, haccount]
      by_cases hd : d = c
      · subst hd
        rwa [perClass_get_set_self, perClass_get_set_self]
      · rw [perClass_get_set_other _ _ hd, perClass_get_set_other _ _ hd]
        exact h.counted.occupied d
  · intro hy d
    have hx := h.sums (hstate ▸ hy) d
    rw [haccount, hplan]
    by_cases hd : d = c
    · subst hd
      rw [perClass_get_set_self]
      exact hsum _ hx
    · rwa [perClass_get_set_other _ _ hd]

theorem poolCost_append (ks : List Packet) (k : Packet) :
    poolCost (ks ++ [k]) = (poolCost ks).zip (· + ·) k.cost := by
  simp [poolCost, Amount.zip, Packet.cost]

theorem poolCost_cons (k : Packet) (ks : List Packet) : poolCost (k :: ks) = (poolCost ks).zip (· + ·) k.cost := by
  simp only [poolCost, Amount.zip, Packet.cost, List.length_cons, List.map_cons, List.sum_cons, Amount.mk.injEq,
    true_and]
  exact Nat.add_comm _ _

/-- The cost of a pool is the cost of any of its packets and of the rest. -/
theorem poolCost_eraseIdx {ks : List Packet} {i : Nat} {k : Packet} (h : ks[i]? = some k) :
    poolCost ks = (poolCost (ks.eraseIdx i)).zip (· + ·) k.cost := by
  induction ks generalizing i with
  | nil => cases h
  | cons j ks ih =>
    cases i with
    | zero =>
      have hhead : j = k := Option.some.inj h
      rw [← hhead]
      exact poolCost_cons j ks
    | succ i =>
      have htail : ks[i]? = some k := h
      rw [List.eraseIdx_cons_succ, poolCost_cons, poolCost_cons, ih htail]
      simp only [Amount.zip, Amount.mk.injEq]
      exact ⟨Nat.add_right_comm .., Nat.add_right_comm ..⟩

theorem removePacket_keepsCredit {b : Bridge} (h : CreditInv b) {p : Port} {c : Cls} {i : Nat} {k : Packet}
    (hk : (b.pool p c)[i]? = some k) : CreditInv (removePacket p c i k b) := by
  have hp := creditInv_iff.mp h p
  have hcost := poolCost_eraseIdx hk
  have hoccupied : (b.account p c).occupied = poolCost (b.pool p c) := hp.counted.occupied c
  rw [hcost] at hoccupied
  refine creditInv_of_port (p := p) h (fun q hq => by simp [removePacket, hq])
    (hp.setClass c (ks := (b.pool p c).eraseIdx i) (a := { b.account p c with
        occupied := (b.account p c).occupied.zip (· - ·) k.cost, freed := (b.account p c).freed.zip (· + ·) k.cost })
      (by simp [removePacket]) (by simp [removePacket, Bridge.account]) (by simp [removePacket])
      (by simp [removePacket]) (fun j hj => hp.counted.byClass c j (List.mem_of_mem_eraseIdx hj)) ?_ ?_)
  · simp [hoccupied, Amount.zip]
  · intro pool hsum
    have hsum : sumsToPool (b.account p c) pool := hsum
    simp only [sumsToPool, hoccupied, Amount.zip] at hsum ⊢
    omega

theorem takeAt_keepsCredit (p : Port) (c : Cls) (i : Nat) : KeepsCredit (takeAt p c i) := by
  intro b h
  unfold takeAt
  dsimp only
  split
  · exact h
  · next k hk =>
    have hsame := (carryOut_kept (routeOf b p k) b).same
    split
    · refine removePacket_keepsCredit (hsame.creditInv h) ?_
      have hpool : ((routeOf b p k).carryOut b).pool p c = b.pool p c := congrArg (·.get c) (hsame p).pools
      rwa [hpool]
    · exact h

theorem deliverPacket_keepsCredit (p : Port) (k : Packet) : KeepsCredit (deliverPacket p k) := by
  intro b h
  have hp := creditInv_iff.mp h p
  have hoccupied : (b.account p k.cls).occupied = poolCost (b.pool p k.cls) := hp.counted.occupied k.cls
  refine creditInv_of_port (p := p) h (fun q hq => by simp [deliverPacket, hq])
    (hp.setClass k.cls (ks := b.pool p k.cls ++ [k]) (a := (b.account p k.cls).take k.cost)
      (by simp [deliverPacket]) (by simp [deliverPacket, Bridge.account]) (by simp [deliverPacket])
      (by simp [deliverPacket]) ?_ ?_ ?_)
  · intro j hj
    rcases List.mem_append.mp hj with hj | hj
    · exact hp.counted.byClass k.cls j hj
    · rw [List.mem_singleton.mp hj]
  · rw [poolCost_append, ← hoccupied]
    rfl
  · intro pool hsum
    have hsum : sumsToPool (b.account p k.cls) pool := hsum
    simp only [sumsToPool, RxAccount.take, Amount.zip] at hsum ⊢
    omega

theorem takeExpected_keepsCredit (p : Port) (k : Packet) : KeepsCredit (takeExpected p k) := by
  intro b h
  unfold takeExpected
  split
  · exact ((SameCredit.of_pushKeeps (raise_keeps _ b)).trans (beginTraining_same p _ _ _)).creditInv h
  · exact deliverPacket_keepsCredit p k b h

theorem judgeFrame_keepsCredit (p : Port) (f : RxFrame) : KeepsCredit (judgeFrame p f) := by
  intro b h
  unfold judgeFrame
  dsimp only
  split
  · split
    · exact takeExpected_keepsCredit p _ b h
    split
    · exact ((SameCredit.refl b).onRecv p _).creditInv h
    · exact ((SameCredit.refl b).onRecv p _).creditInv h
  · exact (((SameCredit.refl b).onRecv p _).push (raise_keeps _ _)).creditInv h

/-! ### CREDIT and CONFIG flits -/

/-- A CREDIT flit returns what is freed: freed moves to outstanding (06 R107). -/
theorem sendCredit_keepsCredit (p : Port) : KeepsCredit (sendCredit p) := by
  intro b h
  have hp := creditInv_iff.mp h p
  have haccount : ∀ c, (((sendCredit p b).port p).ingress.account.get c) =
      ((b.port p).ingress.account.get c).advertise := by
    intro c
    cases c <;> simp [sendCredit, Bridge.emitInUse, PerClass.map, PerClass.get]
  refine creditInv_of_port (p := p) h (fun q hq => by simp [sendCredit, Bridge.emitInUse, hq]) ⟨⟨?_, ?_⟩, ?_⟩
  · simpa [sendCredit, Bridge.emitInUse] using hp.counted.byClass
  · intro c
    rw [haccount]
    simpa [sendCredit, Bridge.emitInUse, RxAccount.advertise] using hp.counted.occupied c
  · intro hstate c
    have hsum := hp.sums (by simpa [sendCredit, Bridge.emitInUse] using hstate) c
    rw [haccount]
    simp [sumsToPool, RxAccount.advertise, sendCredit, Bridge.emitInUse, Amount.both] at hsum ⊢
    omega

theorem sendReturns_keepsCredit (p : Port) : KeepsCredit (sendReturns p) := by
  intro b h
  unfold sendReturns
  split
  · exact sendCredit_keepsCredit p b h
  · exact h

theorem sendDue_keepsCredit (p : Port) : KeepsCredit (sendDue p) := by
  intro b h
  have hcounted : CreditInv { b with freeCtr := b.freeCtr + 1 } := (SameCredit.of_ports rfl).creditInv h
  unfold sendDue
  dsimp only
  split
  · split
    · exact sendReturns_keepsCredit p _ ((sendAnswer_same p _).creditInv hcounted)
    · exact (sendAnswer_same p _).creditInv (sendReturns_keepsCredit p _ hcounted)
  · exact sendReturns_keepsCredit p _ ((sendAnswer_same p b).creditInv h)

/-- The account of each class at the port's CONFIG flit, with the plan then active (06 R111). -/
theorem atConfig_account (x : Ingress) (first : Bool) (c : Cls) :
    (x.atConfig first).account.get c = (x.account.get c).atConfig ((x.atConfig first).activePlan.get c) := by
  cases c <;> rfl

/-- What a port's CONFIG flit does to its Ingress Buffer, and the port stays in its state (06 R111). -/
theorem sendConfig_port (p : Port) (b : Bridge) :
    ((sendConfig p b).port p).ingress = (b.port p).ingress.atConfig (!(b.port p).training.planTaken) ∧
      ((sendConfig p b).port p).record = (b.port p).record := by
  unfold sendConfig emitConfig
  dsimp only
  split <;> simp

theorem sendConfig_other (p : Port) (b : Bridge) {q : Port} (hq : q ≠ p) : (sendConfig p b).port q = b.port q := by
  unfold sendConfig emitConfig
  dsimp only
  split <;> simp [hq]

/-- A port's CONFIG flit sets its accounts to the pools of its plan, whatever they were (06 R111). -/
theorem sendConfig_keepsCredit (p : Port) : KeepsCredit fun b => sendConfig p (b.setLinkState p .config) := by
  intro b h
  have hp := (creditInv_iff.mp h p).counted
  obtain ⟨hingress, _⟩ := sendConfig_port p (b.setLinkState p .config)
  refine creditInv_of_port (p := p) h (fun q hq => by simp [sendConfig_other, hq]) ⟨?_, fun _ c => ?_⟩
  · rw [hingress]
    refine ⟨by simpa [Ingress.atConfig] using hp.byClass, fun c => ?_⟩
    rw [atConfig_account]
    simpa [Ingress.atConfig, RxAccount.atConfig] using hp.occupied c
  · rw [hingress, atConfig_account]
    simp only [sumsToPool, RxAccount.atConfig, Amount.both]
    omega

/-! ### The offering of freed places -/

theorem admitFirst_keepsCredit {b b' : Bridge} {p : Port} {c : Cls} (h : CreditInv b)
    (hb : admitFirst p c b = some b') : CreditInv b' := by
  simp only [admitFirst, Option.orElse_eq_orElse, Option.orElse_eq_or, Option.or_eq_some_iff] at hb
  rcases hb with (hrank1 | ⟨_, hrank2⟩) | ⟨_, hrank3 | ⟨_, hrank45⟩⟩
  · split at hrank1
    · obtain ⟨e, _, rfl⟩ := Option.map_eq_some_iff.mp hrank1
      exact (pushOwed_kept _ e b).same.creditInv h
    · cases hrank1
  · split at hrank2
    · cases hrank2
      exact (SameCredit.of_pushKeeps (admitReply_keeps p b)).creditInv h
    · cases hrank2
  · split at hrank3
    · obtain ⟨i, _, rfl⟩ := Option.map_eq_some_iff.mp hrank3
      exact (SameCredit.of_pushKeeps (admitLine_keeps i b)).creditInv h
    · cases hrank3
  · obtain ⟨q, _, rfl⟩ := Option.map_eq_some_iff.mp hrank45
    exact takeAt_keepsCredit _ _ _ b h

theorem offerPlaces_keepsCredit (p : Port) (c : Cls) (n : Nat) : KeepsCredit (offerPlaces p c n) := by
  induction n with
  | zero => exact fun _ h => h
  | succ n ih =>
    intro b h
    unfold offerPlaces
    split
    · split
      · exact h
      · next b' hb => exact ih b' (admitFirst_keepsCredit h hb)
    · exact h

theorem offerFreed_keepsCredit (before : Bridge) (p : Port) (c : Cls) : KeepsCredit (offerFreed before p c) := by
  intro b h
  unfold offerFreed
  split
  · exact offerPlaces_keepsCredit p c _ b h
  · exact h

theorem offerAll_keepsCredit (before : Bridge) (p : Port) : KeepsCredit (offerAll before p) := fun b h =>
  offerFreed_keepsCredit before p .query _
    (offerFreed_keepsCredit before p .stream _ (offerFreed_keepsCredit before p .reply b h))

theorem judge_keepsCredit (w : WaitingPool) : KeepsCredit w.judge := by
  intro b h
  have hhead : CreditInv (if w.head then takeAt w.port w.cls 0 b else b) := by
    split
    · exact takeAt_keepsCredit _ _ _ b h
    · exact h
  unfold WaitingPool.judge
  dsimp only
  generalize (if w.head = true then takeAt w.port w.cls 0 b else b) = judged at hhead
  split
  · exact hhead
  · generalize (if (w.head && headReady b w.port w.cls) = true then _ else _) = j
    split
    · exact takeAt_keepsCredit _ _ _ _ hhead
    · exact hhead

/-! ### Failed attempts and the entry to CONFIG -/

theorem lossAct_keepsCredit (p : Port) (a : LossAct) : KeepsCredit (a.carryOut p) := by
  intro b h
  cases a with
  | record r => exact (SameCredit.of_pushKeeps (raise_keeps r b)).creditInv h
  | entryLost d e => exact (farPortLost_kept d e b).same.creditInv h
  | donePushed d e => exact (pushOwed_kept d e b).same.creditInv h
  | retrainEnds => exact (SameCredit.of_pushKeeps (answerRetrain_keeps p _ _ b)).creditInv h
  | replyPushed => exact (SameCredit.of_pushKeeps (admitReply_keeps p b)).creditInv h
  | linePushed i =>
    show CreditInv (if (b.line i).state == .pending then admitLine i b else b)
    split
    · exact (SameCredit.of_pushKeeps (admitLine_keeps i b)).creditInv h
    · exact h
  | poolJudged w => exact judge_keepsCredit w b h

theorem lossActs_keepCredit (p : Port) (acts : List LossAct) :
    KeepsCredit fun b => acts.foldl (fun b a => a.carryOut p b) b := by
  induction acts with
  | nil => exact fun _ h => h
  | cons a acts ih => exact fun b h => ih _ (lossAct_keepsCredit p a b h)

/-- A port going DOWN before any block acts. -/
theorem downed_same (p : Port) (b : Bridge) :
    SameCredit b (restartNumbers p (flushEgress p (b.setLinkState p .down))) :=
  (((SameCredit.refl b).setLinkState p fun h => absurd h not_connected_down).onPort p ⟨rfl, rfl, rfl, id⟩).trans
    (restartNumbers_same p _)

theorem goDown_keepsCredit (p : Port) : KeepsCredit (goDown p) := fun b h =>
  lossActs_keepCredit p _ _ (((downed_same p b).rest rfl).creditInv h)

theorem failAttempt_keepsCredit (p : Port) : KeepsCredit (failAttempt p) := by
  intro b h
  have hcounted := (SameCredit.refl b).onRecord p (f := fun r => { r with attempts := (b.port p).record.attempts + 1 }) id
  unfold failAttempt
  dsimp only
  split
  · exact (hcounted.trans (beginAttempt_same p _ _)).creditInv h
  · exact goDown_keepsCredit p _ (hcounted.creditInv h)

/-- The partner's CONFIG flit is taken between the port's own and the entry to ACTIVE. -/
theorem takeConfig_keepsCredit {p : Port} (c : ConfigFlit) {b : Bridge} (hstate : connected (b.port p).record.state)
    (h : CreditInv b) : CreditInv (takeConfig p c b) := by
  have habsorbed := absorbConfig_same p c b
  unfold takeConfig
  dsimp only
  split
  · exact failAttempt_keepsCredit p _ (habsorbed.creditInv h)
  · refine (habsorbed.trans (enterActive_same _ ?_)).creditInv h
    rwa [absorbConfig_state]

theorem enterConfig_keepsCredit (p : Port) : KeepsCredit (enterConfig p) := by
  intro b h
  have hsent := sendConfig_keepsCredit p b h
  unfold enterConfig
  dsimp only at hsent ⊢
  split
  · exact hsent
  · refine takeConfig_keepsCredit _ ?_ hsent
    rw [(sendConfig_port p _).2, port_setLinkState_self]
    exact .inl rfl

theorem takeTrain_keepsCredit (p : Port) (marker : Bool) (rate : Rate) : KeepsCredit (takeTrain p marker rate) := by
  intro b h
  have htraining := (beginTraining_same p .partnerTrain rate b).creditInv h
  unfold takeTrain
  split
  · exact htraining
  · exact htraining
  · exact htraining
  · exact htraining
  · split
    · exact enterConfig_keepsCredit p b h
    · exact h
  · split
    · exact h
    · exact failAttempt_keepsCredit p b h

theorem meetConfig_keepsCredit (p : Port) (c : ConfigFlit) : KeepsCredit (meetConfig p c) := by
  intro b h
  have hkept : CreditInv (keepConfig p c b) := ((SameCredit.refl b).onTraining p _).creditInv h
  unfold meetConfig
  dsimp only
  split
  · split
    · exact enterConfig_keepsCredit p _ hkept
    · exact hkept
  · next hconfig => exact takeConfig_keepsCredit c (.inl hconfig) h
  all_goals exact h

theorem endSweep_keepsCredit (p : Port) (passing : Vector (BitVec 64) 16) : KeepsCredit (endSweep p passing) := by
  intro b h
  have hswept := (SameCredit.refl b).onPort p (f := fun s => { s with lanes := sweptLanes s passing })
    ⟨rfl, rfl, rfl, id⟩
  unfold endSweep
  dsimp only
  split
  · exact failAttempt_keepsCredit p _ (hswept.creditInv h)
  split
  · exact enterConfig_keepsCredit p _ (((hswept.onTraining p _).emit p _).creditInv h)
  · exact ((hswept.onTraining p _).emit p _).creditInv h

/-! ### Resets -/

theorem poolsCounted_empty {x : Ingress} (hpools : x.pools = .all []) (haccount : x.account = .all RxAccount.zero) :
    PoolsCounted x := by
  constructor <;> intro c <;> cases c <;> simp [hpools, haccount, PerClass.all, PerClass.get, RxAccount.zero, poolCost,
    Amount.both]

theorem coldReset_creditInv (unitsel : UnitNo) (leafmgt : Bool) (b : Bridge) :
    CreditInv (coldResetOf unitsel leafmgt b) := by
  refine creditInv_iff.mpr fun p => ?_
  cases p <;> exact ⟨poolsCounted_empty rfl rfl, fun h => absurd h not_connected_training⟩

theorem releaseReset_same (b : Bridge) : SameCredit b (releaseReset b) := by
  unfold releaseReset
  split
  · exact ((SameCredit.of_ports (b' := { b with rstLow := false }) rfl).trans (beginTraining_same _ _ _ _)).trans
      (beginTraining_same _ _ _ _)
  · exact .refl b

theorem leafResetTaken_same (b : Bridge) : SameCredit b (leafResetTaken b) :=
  (renumber_same .leaf b).trans (beginTraining_same _ _ _ _)

/-- A port a reset has emptied: its accounts sum to its pools again from its next CONFIG flit on. -/
theorem resetPort_counted (p : Port) (b : Bridge) : PoolsCounted ((resetPort p b).port p).ingress := by
  unfold resetPort
  rw [port_onPort_self]
  exact poolsCounted_empty rfl rfl

theorem resetPort_other (p : Port) (b : Bridge) {q : Port} (hq : q ≠ p) : (resetPort p b).port q = b.port q := by
  simp [resetPort, restartNumbers, flushEgress, hq]

theorem resetTrainings_same (forwarding : Bool) (b : Bridge) : SameCredit b (resetTrainings forwarding b) := by
  have hroot := beginTraining_same .root .reset .r3_2 b
  unfold resetTrainings
  dsimp only
  split
  · exact (hroot.emit .leaf _).trans (beginTraining_same _ _ _ _)
  · exact hroot

/-- Each port a Root reset empties is in TRAINING when its trainings have begun. -/
theorem resetTrainings_disconnects (forwarding : Bool) (b : Bridge) :
    ¬connected ((resetTrainings forwarding b).port .root).record.state ∧
      (forwarding = true → ¬connected ((resetTrainings forwarding b).port .leaf).record.state) := by
  have hroot : ¬connected ((beginTraining .root .reset .r3_2 b).port .root).record.state := by
    rw [beginTraining_training]
    exact not_connected_training
  unfold resetTrainings
  dsimp only
  split
  · refine ⟨fun h => hroot ?_, fun _ => ?_⟩
    · exact (((SameCredit.refl _).emit .leaf _).trans (beginTraining_same .leaf _ _ _) .root).epoch h
    · rw [beginTraining_training]
      exact not_connected_training
  · next hoff => exact ⟨hroot, fun hon => absurd hon hoff⟩

/-- The part with the ports of a Root reset emptied. -/
def portsReset (b : Bridge) : Bridge :=
  if b.engine.resetForwarding then resetPort .leaf (resetPort .root b) else resetPort .root b

theorem portsReset_counted {b : Bridge} (h : CreditInv b) (q : Port) : PoolsCounted ((portsReset b).port q).ingress := by
  have hleaf : (resetPort .root b).port .leaf = b.port .leaf := resetPort_other .root b nofun
  unfold portsReset
  split
  · cases q with
    | root =>
      rw [resetPort_other .leaf (q := .root) _ nofun]
      exact resetPort_counted .root b
    | leaf => exact resetPort_counted .leaf _
  · cases q with
    | root => exact resetPort_counted .root b
    | leaf =>
      rw [hleaf]
      exact (creditInv_iff.mp h .leaf).counted

/-- The accounts of an emptied port sum to nothing until its CONFIG flit, and its training begins in the same event; the
other port, if it is not reset, is left. -/
theorem resetTrainings_creditInv {b r : Bridge} (h : CreditInv b) (hs : SameCredit (portsReset b) r) :
    CreditInv (resetTrainings b.engine.resetForwarding r) := by
  have hsame := hs.trans (resetTrainings_same b.engine.resetForwarding r)
  obtain ⟨hroot, hleaf⟩ := resetTrainings_disconnects b.engine.resetForwarding r
  refine creditInv_iff.mpr fun q => ⟨(portsReset_counted h q).of_same (hsame q), fun hq => ?_⟩
  cases q with
  | root => exact absurd hq hroot
  | leaf =>
    by_cases hfwd : b.engine.resetForwarding = true
    · exact absurd hq (hleaf hfwd)
    · have hkept : (portsReset b).port .leaf = b.port .leaf := by
        unfold portsReset
        rw [if_neg hfwd]
        exact resetPort_other .root b nofun
      have hsame := hsame .leaf
      rw [hkept] at hsame
      exact ((creditInv_iff.mp h .leaf).of_same hsame).sums hq

theorem rootResetOf_keepsCredit : KeepsCredit rootResetOf := by
  intro b h
  have htables : SameCredit (portsReset b) (resetTables b.engine.resetForwarding
      ((portsReset b).onEngine fun e => e.atReset b.engine.resetForwarding)) :=
    (SameCredit.of_ports (ports_onEngine ..)).trans (resetTables_kept _ _).same
  refine offerAll_keepsCredit b .root _ (SameCredit.creditInv ?_ (resetTrainings_creditInv h htables))
  exact ((enterFlushRecords_kept _ _).same.rest (b' := resetLines _ _) rfl).trans
    (SameCredit.foldl (fun i b => .of_pushKeeps (notifyIfDue_keeps i b)) _ _)

/-! ### Sending -/

theorem sendHead_keepsCredit (p : Port) (c : Cls) (x : Queued) (rest : List Queued) :
    KeepsCredit (sendHead p c x rest) := by
  intro b h
  have hdue := sendDue_keepsCredit p b h
  have haged := (SameCredit.refl (sendDue p b)).onPort p
    (f := fun s => { s with egress := { s.egress with current := b.aged p c } }) ⟨rfl, rfl, rfl, id⟩
  have hsent := (haged.setQueue p c rest).trans (transmit_same p c x.pkt _)
  unfold sendHead
  dsimp only
  refine offerFreed_keepsCredit b p c _ (SameCredit.creditInv ?_ hdue)
  split
  · exact hsent
  · exact hsent.trans (queryTransmitted_kept _ _).same

theorem arbitrate_keepsCredit (p : Port) : KeepsCredit (arbitrate p) := by
  intro b h
  unfold arbitrate
  split
  · split
    · exact h
    split
    · exact h
    · exact sendHead_keepsCredit p _ _ _ b h
  · exact h

theorem resend_keepsCredit (p : Port) : KeepsCredit (resend p) := by
  intro b h
  have hdue := sendDue_keepsCredit p b h
  unfold resend
  split
  · exact h
  split
  · exact h
  · exact (((SameCredit.refl _).emit p _).onSend p _).creditInv hdue

theorem takeHead_keepsCredit (p : Port) (c : Cls) (kinds : List Kind) : KeepsCredit (takeHead p c kinds) := by
  intro b h
  unfold takeHead
  split
  · exact h
  split
  · exact takeAt_keepsCredit p c 0 b h
  · exact h

/-! ### The Management Engine -/

/-- The effect of a command leaves the accounts: a plan it sets is pending until the port's next CONFIG flit (06 R104). -/
def EffectSame (effect : Command → Bridge → Verdict) : Prop := ∀ c b, SameCredit b (verdictPart (effect c b))

theorem settle_same (v : Verdict) (c : Command) : SameCredit (verdictPart v) (v.settle c) := by
  cases v with
  | answer status data wakes b => exact .of_pushKeeps (deliverWith_keeps push_keeps _ _ b)
  | defer op b => exact .of_ports rfl

theorem judge_same (req : Nat) {effect : Command → Bridge → Verdict} (he : EffectSame effect) :
    EffectSame (judge req effect) := by
  intro c b
  unfold judge
  split
  · exact .refl b
  split
  · exact .refl b
  split
  · exact .refl b
  · exact he c b

theorem runHead_same (code : BitVec 6) (req : Nat) {effect : Command → Bridge → Verdict} (he : EffectSame effect)
    (b : Bridge) : SameCredit b (runHead code req effect b) := by
  unfold runHead
  split
  · exact .refl b
  · next c _ _ =>
    split
    · exact (judge_same req he c b).trans (settle_same _ c)
    · exact .refl b

theorem runUnknown_same (b : Bridge) : SameCredit b (runUnknown b) := by
  unfold runUnknown
  split
  · exact .refl b
  · split
    · exact settle_same (refuse .malformed b) _
    · exact .refl b

/-! ### The commands that write no port -/

/-- The effect writes neither port. -/
def WritesNoPort (effect : Command → Bridge → Verdict) : Prop := ∀ c b, (verdictPart (effect c b)).ports = b.ports

theorem WritesNoPort.same {effect : Command → Bridge → Verdict} (h : WritesNoPort effect) : EffectSame effect :=
  fun c b => .of_ports (h c b)

theorem accessSet_noPort : WritesNoPort accessSetEffect := by
  intro c b
  unfold accessSetEffect
  split <;> rfl

theorem portStatus_noPort : WritesNoPort portStatusEffect := by
  intro c b
  unfold portStatusEffect
  split <;> rfl

theorem laneRead_noPort : WritesNoPort laneReadEffect := by
  intro c b
  unfold laneReadEffect
  split <;> rfl

theorem windowLoad_noPort : WritesNoPort windowLoadEffect := by
  intro c b
  unfold windowLoadEffect
  split <;> rfl

theorem windowActivate_noPort : WritesNoPort windowActivateEffect := by
  intro c b
  unfold windowActivateEffect
  split
  · rfl
  · dsimp only
    split
    · split <;> rfl
    all_goals rfl

theorem windowRetire_noPort : WritesNoPort windowRetireEffect := by
  intro c b
  unfold windowRetireEffect
  split
  · rfl
  · dsimp only
    split
    · split
      · rfl
      · split <;> rfl
    all_goals rfl

theorem windowDiscard_noPort : WritesNoPort windowDiscardEffect := by
  intro c b
  unfold windowDiscardEffect
  split
  · rfl
  · split <;> rfl

theorem windowRead_noPort : WritesNoPort windowReadEffect := by
  intro c b
  unfold windowReadEffect
  split <;> rfl

theorem groupSet_noPort : WritesNoPort groupSetEffect := by
  intro c b
  unfold groupSetEffect
  split <;> rfl

theorem groupRead_noPort : WritesNoPort groupReadEffect := by
  intro c b
  unfold groupReadEffect
  split <;> rfl

theorem missPolicySet_noPort : WritesNoPort missPolicySetEffect := by
  intro c b
  unfold missPolicySetEffect
  split <;> rfl

theorem timerSet_noPort : WritesNoPort timerSetEffect := by
  intro c b
  unfold timerSetEffect
  split <;> rfl

theorem queryRead_noPort : WritesNoPort queryReadEffect := by
  intro c b
  unfold queryReadEffect
  split <;> rfl

theorem signalRead_noPort : WritesNoPort signalReadEffect := by
  intro c b
  unfold signalReadEffect
  split <;> rfl

theorem cancelNotification_ports (i : Fin 64) (b : Bridge) : (cancelNotification i b).ports = b.ports := by
  unfold cancelNotification
  dsimp only
  split <;> rfl

theorem captureRead_noPort : WritesNoPort captureReadEffect := by
  intro c b
  unfold captureReadEffect
  dsimp only
  split
  · rfl
  · exact cancelNotification_ports 0 _
  · rfl

theorem captureClear_noPort : WritesNoPort captureClearEffect := by
  intro c b
  unfold captureClearEffect
  dsimp only
  split
  · rfl
  · exact cancelNotification_ports 0 _

/-! ### The commands that write a port -/

theorem writeSettings_same {c : Command} {ports : List Port} {b b' : Bridge}
    (hw : writeSettings c ports b = some b') : SameCredit b b' := by
  induction ports generalizing b with
  | nil =>
    cases hw
    exact .refl _
  | cons p ps ih =>
    unfold writeSettings at hw
    split at hw
    · cases hw
    · exact ((SameCredit.refl b).onRecord p id).trans (ih hw)

theorem linkSet_same : EffectSame linkSetEffect := by
  intro c b
  unfold linkSetEffect
  split
  · exact .refl b
  · next b' hb =>
    obtain ⟨ps, _, hw⟩ := Option.bind_eq_some_iff.mp hb
    exact writeSettings_same hw

theorem linkRetrain_same : EffectSame linkRetrainEffect := by
  intro c b
  unfold linkRetrainEffect
  split
  · exact .refl b
  · next p _ =>
    have htraining := beginTraining_same p .retrain .r3_2 b
    unfold retrainPort
    split
    · exact .refl b
    split
    · exact .refl b
    split
    · exact htraining
    · exact htraining
    · exact htraining
    all_goals exact .refl b

theorem linkPark_same : EffectSame linkParkEffect := by
  intro c b
  unfold linkParkEffect
  split
  · exact .refl b
  · unfold parkCommand
    split
    · exact .refl b
    split
    · next hpark => exact parkPort_same (canPark_active hpark)
    split
    · exact .refl b
    · exact .refl b

theorem linkWake_same : EffectSame linkWakeEffect := by
  intro c b
  unfold linkWakeEffect
  split
  · exact .refl b
  · split
    · next hparked => exact .of_pushKeeps (startWake_keeps b _ hparked)
    · exact .refl b

theorem bufferPlanSet_same : EffectSame bufferPlanSetEffect := by
  intro c b
  unfold bufferPlanSetEffect
  split
  · exact .refl b
  · split
    · exact .refl b
    · exact SameCredit.foldl (fun p b => (SameCredit.refl b).onPort p ⟨rfl, rfl, rfl, id⟩) _ b

theorem arbiterSet_same : EffectSame arbiterSetEffect := by
  intro c b
  unfold arbiterSetEffect
  split
  · exact SameCredit.foldl (fun p b => (SameCredit.refl b).onPort p ⟨rfl, rfl, rfl, id⟩) _ b
  · exact .refl b

theorem setLine_notifyIfDue_same (b : Bridge) (i : Fin 64) (l : Line) :
    SameCredit b (notifyIfDue i (b.setLine i l)) :=
  .of_pushKeeps ((setLine_keeps b i l).trans (notifyIfDue_keeps i _))

theorem setLine_cancelNotification_same (b : Bridge) (i : Fin 64) (l : Line) :
    SameCredit b (cancelNotification i (b.setLine i l)) :=
  .of_pushKeeps ((setLine_keeps b i l).trans (cancelNotification_keeps i _))

theorem signalConfig_same : EffectSame signalConfigEffect := by
  intro c b
  unfold signalConfigEffect
  split
  · exact .refl b
  split
  · exact .refl b
  · dsimp only
    split
    · exact setLine_notifyIfDue_same b _ _
    · exact setLine_cancelNotification_same b _ _

theorem signalMask_same : EffectSame signalMaskEffect := by
  intro c b
  unfold signalMaskEffect
  split
  · exact setLine_notifyIfDue_same b _ _
  · exact setLine_cancelNotification_same b _ _
  · exact .refl b

theorem signalServiced_same : EffectSame signalServicedEffect := by
  intro c b
  unfold signalServicedEffect
  split
  · exact .refl b
  split
  · exact setLine_notifyIfDue_same b _ _
  · exact .refl b

/-! ### The step -/

theorem event_keepsCredit {f : Bridge → Bridge} (hf : KeepsCredit f) {s : State} (h : CreditInv s.bridge) :
    CreditInv (s.event f).bridge := by
  unfold State.event
  rw [bridge_onBridge]
  split
  · exact h
  · exact hf _ h

/-- An event that acts only where its condition holds (log 1). -/
theorem event_ite_keepsCredit {cond : Bridge → Prop} [DecidablePred cond] {f : Bridge → Bridge} {s : State}
    (hf : ∀ b, cond b → CreditInv b → CreditInv (f b)) (h : CreditInv s.bridge) :
    CreditInv (s.event fun b => if cond b then f b else b).bridge := by
  refine event_keepsCredit (fun b hb => ?_) h
  split
  · next hc => exact hf b hc hb
  · exact hb

/-- An event that leaves the accounts, where it acts. -/
theorem event_ite_same {cond : Bridge → Prop} [DecidablePred cond] {f : Bridge → Bridge} {s : State}
    (hf : ∀ b, cond b → SameCredit b (f b)) (h : CreditInv s.bridge) :
    CreditInv (s.event fun b => if cond b then f b else b).bridge :=
  event_ite_keepsCredit (fun b hc => (hf b hc).creditInv) h

theorem runHead_event {code : BitVec 6} {req : Nat} {effect : Command → Bridge → Verdict} (he : EffectSame effect)
    {s : State} (h : CreditInv s.bridge) : CreditInv (s.event (runHead code req effect)).bridge :=
  event_keepsCredit (fun b => (runHead_same code req he b).creditInv) h

/-- The row of a command acts on the part, or leaves it, and keeps the accounts true. -/
theorem exec_keepsCredit (i : Instr) (s : State) (h : CreditInv s.bridge) :
    ∃ t, exec i s = .next t ∧ CreditInv t.bridge := by
  cases i with
  | coldReset unitsel leafmgt => exact ⟨_, rfl, coldReset_creditInv unitsel leafmgt s.bridge⟩
  | rstNRelease => exact ⟨_, rfl, (releaseReset_same s.bridge).creditInv h⟩
  | rootReset f => exact ⟨_, rfl, event_ite_keepsCredit (fun b _ => rootResetOf_keepsCredit b) h⟩
  | resetFlitAtLeaf f => exact ⟨_, rfl, event_ite_same (fun b _ => leafResetTaken_same b) h⟩
  | packetReceived p f => exact ⟨_, rfl, event_ite_keepsCredit (fun b _ => judgeFrame_keepsCredit p f b) h⟩
  | partnerTrainDetected p f =>
    refine ⟨_, rfl, event_keepsCredit (fun b hb => ?_) h⟩
    split
    · exact takeTrain_keepsCredit p _ _ b hb
    · exact hb
  | configReceived p f =>
    refine ⟨_, rfl, event_keepsCredit (fun b hb => ?_) h⟩
    split
    · exact meetConfig_keepsCredit p _ b hb
    · exact hb
  | ackReceived p f =>
    refine ⟨_, rfl, event_keepsCredit (fun b hb => ?_) h⟩
    split
    · exact (meetAck_same p _ b).creditInv hb
    · exact hb
  | nakReceived p f =>
    refine ⟨_, rfl, event_keepsCredit (fun b hb => ?_) h⟩
    split
    · split
      · exact (takeNak_same p _ b).creditInv hb
      · exact hb
    · exact hb
  | creditReceived p f =>
    refine ⟨_, rfl, event_keepsCredit (fun b hb => ?_) h⟩
    split
    · split
      · exact ((SameCredit.refl b).onPort p ⟨rfl, rfl, rfl, id⟩).creditInv hb
      · exact hb
    · exact hb
  | parkReceived p f => exact ⟨_, rfl, event_ite_same (fun _ hc => takePark_same hc.2) h⟩
  | wakeReceived p f => exact ⟨_, rfl, event_ite_same (fun b _ => takeWake_same p b) h⟩
  | idleReceived p f => exact ⟨_, rfl, h⟩
  | sweepEnds p passing => exact ⟨_, rfl, event_ite_keepsCredit (fun b _ => endSweep_keepsCredit p passing b) h⟩
  | attemptBoundPasses p => exact ⟨_, rfl, event_ite_keepsCredit (fun b _ => failAttempt_keepsCredit p b) h⟩
  | wakeBoundPasses p => exact ⟨_, rfl, event_ite_same (fun b _ => beginTraining_same p _ _ b) h⟩
  | parkDrainBoundPasses p => exact ⟨_, rfl, event_ite_same (fun b _ => .of_pushKeeps (failDrain_keeps p b)) h⟩
  | parkDrainCompletes p => exact ⟨_, rfl, event_ite_same (fun _ hc => completePark_same (canPark_active hc)) h⟩
  | replayTimerExpires p => exact ⟨_, rfl, event_ite_same (fun b _ => triggerReplay_same p b) h⟩
  | ackBoundPasses p => exact ⟨_, rfl, event_ite_same (fun b _ => (SameCredit.refl b).onRecv p _) h⟩
  | creditRepeatDue p => exact ⟨_, rfl, event_ite_keepsCredit (fun b _ => sendCredit_keepsCredit p b) h⟩
  | configRepeat p => exact ⟨_, rfl, event_ite_same (fun b _ => repeatConfig_same p b) h⟩
  | wakeRepeat p => exact ⟨_, rfl, event_ite_same (fun b _ => repeatWake_same p b) h⟩
  | arbiterDecision p => exact ⟨_, rfl, event_keepsCredit (arbitrate_keepsCredit p) h⟩
  | replayResend p => exact ⟨_, rfl, event_ite_keepsCredit (fun b _ => resend_keepsCredit p b) h⟩
  | ackSent p => exact ⟨_, rfl, event_ite_same (fun b _ => sendAck_same p b) h⟩
  | nakSent p => exact ⟨_, rfl, event_ite_same (fun b _ => sendNak_same p b) h⟩
  | creditFlitSent p => exact ⟨_, rfl, event_ite_keepsCredit (fun b _ => sendCredit_keepsCredit p b) h⟩
  | takePut p => exact ⟨_, rfl, event_keepsCredit (takeHead_keepsCredit p .stream _) h⟩
  | takeGetSet p => exact ⟨_, rfl, event_keepsCredit (takeHead_keepsCredit p .query _) h⟩
  | takeManage p => exact ⟨_, rfl, event_keepsCredit (takeHead_keepsCredit p .query _) h⟩
  | managementBypass p =>
    refine ⟨_, rfl, event_keepsCredit (fun b hb => ?_) h⟩
    split
    · exact hb
    · exact takeAt_keepsCredit p .query _ b hb
  | takeSignal => exact ⟨_, rfl, event_keepsCredit (takeHead_keepsCredit .leaf .stream _) h⟩
  | takeReply p => exact ⟨_, rfl, event_keepsCredit (takeHead_keepsCredit p .reply _) h⟩
  | takeMalformed p c =>
    refine ⟨_, rfl, event_keepsCredit (fun b hb => ?_) h⟩
    split
    · exact hb
    split
    · exact takeAt_keepsCredit p c 0 b hb
    · exact hb
  | deadlinePasses d e => exact ⟨_, rfl, event_ite_same (fun b _ => (passDeadline_kept d e b).same) h⟩
  | quarantineEndPasses d e => exact ⟨_, rfl, event_ite_same (fun b _ => (passQuarantine_kept d e b).same) h⟩
  | returningDonePushed d e => exact ⟨_, rfl, event_ite_same (fun b _ => (pushOwed_kept d e b).same) h⟩
  | notificationAdmitted =>
    refine ⟨_, rfl, event_keepsCredit (fun b hb => ?_) h⟩
    split
    · exact hb
    split
    · exact (SameCredit.of_pushKeeps (admitLine_keeps _ b)).creditInv hb
    · exact hb
  | managementReplyAdmitted p =>
    exact ⟨_, rfl, event_ite_same (fun b _ => .of_pushKeeps (admitReply_keeps p b)) h⟩
  | unknownCommand => exact ⟨_, rfl, event_keepsCredit (fun b => (runUnknown_same b).creditInv) h⟩
  | identify => exact ⟨_, rfl, runHead_event (effect := identifyEffect) (fun _ b => .refl b) h⟩
  | accessSet => exact ⟨_, rfl, runHead_event accessSet_noPort.same h⟩
  | portStatus => exact ⟨_, rfl, runHead_event portStatus_noPort.same h⟩
  | linkSet => exact ⟨_, rfl, runHead_event linkSet_same h⟩
  | linkRetrain => exact ⟨_, rfl, runHead_event linkRetrain_same h⟩
  | linkPark => exact ⟨_, rfl, runHead_event linkPark_same h⟩
  | linkWake => exact ⟨_, rfl, runHead_event linkWake_same h⟩
  | laneRead => exact ⟨_, rfl, runHead_event laneRead_noPort.same h⟩
  | bufferPlanSet => exact ⟨_, rfl, runHead_event bufferPlanSet_same h⟩
  | arbiterSet => exact ⟨_, rfl, runHead_event arbiterSet_same h⟩
  | windowLoad => exact ⟨_, rfl, runHead_event windowLoad_noPort.same h⟩
  | windowActivate => exact ⟨_, rfl, runHead_event windowActivate_noPort.same h⟩
  | windowRetire => exact ⟨_, rfl, runHead_event windowRetire_noPort.same h⟩
  | windowDiscard => exact ⟨_, rfl, runHead_event windowDiscard_noPort.same h⟩
  | windowRead => exact ⟨_, rfl, runHead_event windowRead_noPort.same h⟩
  | groupSet => exact ⟨_, rfl, runHead_event groupSet_noPort.same h⟩
  | groupRead => exact ⟨_, rfl, runHead_event groupRead_noPort.same h⟩
  | missPolicySet => exact ⟨_, rfl, runHead_event missPolicySet_noPort.same h⟩
  | timerSet => exact ⟨_, rfl, runHead_event timerSet_noPort.same h⟩
  | queryRead => exact ⟨_, rfl, runHead_event queryRead_noPort.same h⟩
  | querySummary => exact ⟨_, rfl, runHead_event (effect := querySummaryEffect) (fun _ b => .refl b) h⟩
  | signalConfig => exact ⟨_, rfl, runHead_event signalConfig_same h⟩
  | signalMask => exact ⟨_, rfl, runHead_event signalMask_same h⟩
  | signalServiced => exact ⟨_, rfl, runHead_event signalServiced_same h⟩
  | signalRead => exact ⟨_, rfl, runHead_event signalRead_noPort.same h⟩
  | captureRead => exact ⟨_, rfl, runHead_event captureRead_noPort.same h⟩
  | captureClear => exact ⟨_, rfl, runHead_event captureClear_noPort.same h⟩

/-- Settles O58: a step is one µs of the time base, or the front command's row. -/
theorem stepKeepsCredit : Obligations.StepKeepsCredit := by
  unfold Obligations.StepKeepsCredit
  intro s t h hstep
  unfold step at hstep
  split at hstep
  · cases hstep
    exact (tick_kept s.bridge).same.creditInv h
  · next c rest _ =>
    obtain ⟨u, hexec, hu⟩ := exec_keepsCredit c { s with pending := rest } h
    rw [hexec] at hstep
    cases hstep
    exact hu

end Sys2Proof.CreditAccounts
end

section
/-! Credit flits, repeats and bounds (O16, O23): what a CREDIT flit does at either end, the 10 µs repeats, and the two
bounds at which repeats end. -/

namespace Sys2Proof.CreditFlits

open Sys2Proof.Machine Sys2Proof.Safety Sys2Proof.Laws Sys2Proof.CreditAccounts
open Sys2Proof.QueryTables (event_of_due event_of_not_due)

/-! ### CREDIT flits -/

theorem perClass_get_map {α β : Type} (f : α → β) (x : PerClass α) (c : Cls) : (x.map f).get c = f (x.get c) := by
  cases c <;> rfl

theorem perClass_get_zip {α β γ : Type} (f : α → β → γ) (x : PerClass α) (y : PerClass β) (c : Cls) :
    (x.zip f y).get c = f (x.get c) (y.get c) := by
  cases c <;> rfl

/-- The difference of two totals modulo 256 (06 R109). -/
theorem toNat_sub_byte (x y : Byte) : ((x - y).toNat : Int) = (x.toNat + 256 - y.toNat) % 256 := by
  have hy := y.isLt
  rw [BitVec.toNat_sub]
  omega

theorem refilled_eq (a : SendAccount) (totals : Amount Byte) : a.refilled totals =
    { held :=
        ⟨a.held.headers + (totals.headers.toNat + 256 - a.seen.headers.toNat) % 256,
          a.held.blocks + (totals.blocks.toNat + 256 - a.seen.blocks.toNat) % 256⟩,
      seen := totals } := by
  simp only [SendAccount.refilled, toNat_sub_byte]

theorem exec_creditReceived {p : Port} {f : RawFlit} {totals : PerClass (Amount Byte)} {s : State} (hrun : running s)
    (hf : readFlit f = some (.credit totals)) : exec (.creditReceived p f) s = .next { s with
      bridge := if s.bridge.isActive p then
        s.bridge.onPort p fun x => { x with credit := x.credit.zip SendAccount.refilled totals } else s.bridge } := by
  show Host.Outcome.next (s.event _) = _
  rw [event_high s _ hrun, State.onBridge, hf]

/-- Settles O16: by whether the port is ACTIVE. -/
theorem creditRaisesHeldCounts : Obligations.CreditRaisesHeldCounts := by
  unfold Obligations.CreditRaisesHeldCounts
  intro p f totals s hrun hf b
  refine ⟨fun hidle => ?_, fun hactive => ⟨(b.port p).credit.zip SendAccount.refilled totals, ?_, fun c => ?_⟩⟩
  · rw [exec_creditReceived hrun hf, if_neg (Bool.eq_false_iff.mp hidle)]
  · rw [exec_creditReceived hrun hf, if_pos hactive]
    rfl
  · rw [perClass_get_zip, refilled_eq]

/-- A CREDIT flit sent: the accounts it advertises, the moment, and the totals on the lanes in use (06 R107). -/
theorem sendCredit_eq (p : Port) (b : Bridge) : sendCredit p b =
    let x := b.port p
    let account := x.ingress.account.map RxAccount.advertise
    b.setPort p { x with
      ingress := { x.ingress with account := account, lastCredit := b.timeBase },
      out := x.out ++ [⟨.flit (.credit (account.map RxAccount.returns)), x.record.width⟩] } := by
  simp [sendCredit, Bridge.emitInUse, Bridge.emit, Bridge.onPort]

/-- With nothing freed a CREDIT flit leaves the account. -/
theorem advertise_of_none {a : RxAccount} (h : a.freed = ⟨0, 0⟩) : a.advertise = a := by
  obtain ⟨occupied, outstanding, freed, allowance, returns⟩ := a
  cases h
  simp [RxAccount.advertise, Amount.both]

theorem map_advertise_of_none {x : PerClass RxAccount} (h : ∀ c, (x.get c).freed = ⟨0, 0⟩) :
    x.map RxAccount.advertise = x := by
  have hstream := advertise_of_none (h .stream)
  have hquery := advertise_of_none (h .query)
  have hreply := advertise_of_none (h .reply)
  simp only [PerClass.get] at hstream hquery hreply
  simp only [PerClass.map, hstream, hquery, hreply]

/-! ### The bounds -/

theorem takeAt_link (p : Port) (c : Cls) (i : Nat) (b : Bridge) : LinkKept b (takeAt p c i b) := by
  unfold takeAt
  dsimp only
  split
  · exact (PortsKept.refl b).toLinkKept
  · next k _ =>
    split
    · refine (carryOut_kept (routeOf b p k) b).toLinkKept.trans (.of_records fun q => ?_)
      by_cases hq : q = p
      · subst hq
        simp [removePacket]
      · simp [removePacket, hq]
    · exact (PortsKept.refl b).toLinkKept

theorem judge_link (w : WaitingPool) (b : Bridge) : LinkKept b (w.judge b) := by
  have hhead : LinkKept b (if w.head then takeAt w.port w.cls 0 b else b) := by
    split
    · exact takeAt_link _ _ _ b
    · exact (PortsKept.refl b).toLinkKept
  unfold WaitingPool.judge
  dsimp only
  generalize (if w.head = true then takeAt w.port w.cls 0 b else b) = judged at hhead
  split
  · exact hhead
  · generalize (if (w.head && headReady b w.port w.cls) = true then _ else _) = j
    split
    · exact hhead.trans (takeAt_link _ _ _ _)
    · exact hhead

theorem lossAct_link (p : Port) (a : LossAct) (b : Bridge) : LinkKept b (a.carryOut p b) := by
  cases a with
  | record r => exact (PortsKept.of_pushKeeps (raise_keeps r b)).toLinkKept
  | entryLost d e => exact (farPortLost_kept d e b).toLinkKept
  | donePushed d e => exact (pushOwed_kept d e b).toLinkKept
  | retrainEnds => exact (PortsKept.of_pushKeeps (answerRetrain_keeps p _ _ b)).toLinkKept
  | replyPushed => exact (PortsKept.of_pushKeeps (admitReply_keeps p b)).toLinkKept
  | linePushed i =>
    show LinkKept b (if (b.line i).state == .pending then admitLine i b else b)
    split
    · exact (PortsKept.of_pushKeeps (admitLine_keeps i b)).toLinkKept
    · exact (PortsKept.refl b).toLinkKept
  | poolJudged w => exact judge_link w b

theorem lossActs_link (p : Port) (acts : List LossAct) (b : Bridge) :
    LinkKept b (acts.foldl (fun b a => a.carryOut p b) b) := by
  induction acts generalizing b with
  | nil => exact (PortsKept.refl b).toLinkKept
  | cons a acts ih => exact (lossAct_link p a b).trans (ih _)

/-- Whatever the blocks do in the event a port goes DOWN, its record changes its state alone (08 R137). -/
theorem goDown_record (p : Port) (b : Bridge) :
    ((goDown p b).port p).record = { (b.port p).record with state := .down } := by
  have hdowned : ((restartNumbers p (flushEgress p (b.setLinkState p .down))).port p).record =
      { (b.port p).record with state := .down } := by
    simp [restartNumbers, flushEgress]
  rw [← hdowned]
  exact (lossActs_link p _ _).of_down (congrArg PortRecord.state hdowned)

theorem beginAttempt_record (p : Port) (rate : Rate) (b : Bridge) : ((beginAttempt p rate b).port p).record =
    { (b.port p).record with state := .training, rate := rate, attemptStart := b.timeBase } := by
  simp [beginAttempt]

/-- A failed attempt is counted; the third takes the port DOWN and any other begins the next (08 R136). -/
theorem failAttempt_counts (p : Port) (b : Bridge) :
    ((failAttempt p b).port p).record.attempts = (b.port p).record.attempts + 1 ∧
      (failAttempt p b).linkState p = if (b.port p).record.attempts < 2 then .training else .down := by
  unfold failAttempt Bridge.linkState
  by_cases hlast : (b.port p).record.attempts < 2
  · have hmore : (b.port p).record.attempts + 1 < Config.attemptLimit := Nat.succ_lt_succ hlast
    simp only [if_pos hmore, if_pos hlast, beginAttempt_record, port_onRecord_self, and_self]
  · have hdown : ¬(b.port p).record.attempts + 1 < Config.attemptLimit := fun h => hlast (Nat.lt_of_succ_lt_succ h)
    simp only [if_neg hdown, if_neg hlast, goDown_record, port_onRecord_self, and_self]

/-! ### The repeats -/

section
variable {p : Port} {s : State}

theorem exec_creditRepeatDue (hrun : running s) (hactive : s.bridge.isActive p = true)
    (hdue : reached s.bridge.timeBase (after (s.bridge.port p).ingress.lastCredit 10) = true) :
    exec (.creditRepeatDue p) s = .next { s with bridge := sendCredit p s.bridge } :=
  congrArg _ (event_of_due hrun ⟨hactive, hdue⟩)

theorem exec_configRepeat (hrun : running s) (hconfig : s.bridge.linkState p = .config)
    (hdue : reached s.bridge.timeBase (after (s.bridge.port p).training.lastConfig 10) = true) :
    exec (.configRepeat p) s = .next { s with bridge := repeatConfig p s.bridge } :=
  congrArg _ (event_of_due hrun ⟨hconfig, hdue⟩)

theorem exec_wakeRepeat (hrun : running s) (hwaking : s.bridge.linkState p = .waking)
    (hdue : reached s.bridge.timeBase (after (s.bridge.port p).training.lastWake 10) = true) :
    exec (.wakeRepeat p) s = .next { s with bridge := repeatWake p s.bridge } :=
  congrArg _ (event_of_due hrun ⟨hwaking, hdue⟩)

theorem exec_attemptBoundPasses (hrun : running s)
    (hattempt : s.bridge.linkState p = .training ∨ s.bridge.linkState p = .config)
    (hpassed : reached s.bridge.timeBase (after (s.bridge.port p).record.attemptStart 2000) = true) :
    exec (.attemptBoundPasses p) s = .next { s with bridge := failAttempt p s.bridge } :=
  congrArg _ (event_of_due hrun ⟨hattempt, hpassed⟩)

theorem exec_wakeBoundPasses (hrun : running s) (hwaking : s.bridge.linkState p = .waking)
    (hpassed : reached s.bridge.timeBase (after (s.bridge.port p).training.wakeStart 2000) = true) :
    exec (.wakeBoundPasses p) s = .next { s with bridge := beginTraining p .wakeTimeout .r3_2 s.bridge } :=
  congrArg _ (event_of_due hrun ⟨hwaking, hpassed⟩)

end

/-- The ACK, where there is one, and the CONFIG flit, on the usable lanes (08 R134). -/
theorem emitConfig_eq (p : Port) (ack : Option Seq) (c : ConfigFlit) (b : Bridge) : emitConfig p ack c b =
    b.setPort p { b.port p with
      out := (b.port p).out ++
        (match ack with | none => [] | some n => [⟨.flit (.ack n), (b.port p).training.usable⟩]) ++
        [⟨.flit (.config c), (b.port p).training.usable⟩] } := by
  cases ack <;> simp [emitConfig, Bridge.emit, Bridge.onPort]

theorem repeatConfig_eq {p : Port} {b : Bridge} {c : ConfigFlit} (h : (b.port p).training.sentConfig = some c) :
    repeatConfig p b = b.setPort p { b.port p with
      training := { (b.port p).training with lastConfig := b.timeBase },
      out := (b.port p).out ++
        (match (b.port p).training.sentAck with
          | none => []
          | some n => [⟨.flit (.ack n), (b.port p).training.usable⟩]) ++
        [⟨.flit (.config c), (b.port p).training.usable⟩] } := by
  simp only [repeatConfig, h, emitConfig_eq, port_onTraining_self]
  rw [Bridge.onTraining, Bridge.onPort, setPort_setPort]

theorem repeatWake_eq (p : Port) (b : Bridge) : repeatWake p b = b.setPort p { b.port p with
    training := { (b.port p).training with lastWake := b.timeBase },
    out := (b.port p).out ++ [⟨.flit .wake, (b.port p).record.width⟩] } := by
  simp [repeatWake, Bridge.emitInUse, Bridge.emit, Bridge.onTraining, Bridge.onPort]

/-- Settles O23: each repeat by its row, and each bound by whether it is reached in its state. -/
theorem repeatsEveryTenMicroseconds : Obligations.RepeatsEveryTenMicroseconds := by
  unfold Obligations.RepeatsEveryTenMicroseconds
  intro p s hrun b x
  refine ⟨fun hactive hdue hnone => ?_,
    fun hactive hdue => ⟨x.ingress.account.map RxAccount.advertise, ?_, fun c => ?_⟩,
    fun c hconfig hdue hsent => ?_, fun hwaking hdue => ?_, ⟨fun hattempt hpassed => ?_, fun hidle => ?_⟩,
    ⟨fun hwaking hpassed => ?_, fun hidle => ?_⟩⟩
  · rw [exec_creditRepeatDue hrun hactive hdue, sendCredit_eq]
    dsimp only
    rw [map_advertise_of_none hnone]
  · rw [exec_creditRepeatDue hrun hactive hdue, sendCredit_eq]
  · rw [perClass_get_map]
    rfl
  · rw [exec_configRepeat hrun hconfig hdue]
    exact congrArg (fun t => Host.Outcome.next { s with bridge := t }) (repeatConfig_eq hsent)
  · rw [exec_wakeRepeat hrun hwaking hdue, repeatWake_eq]
  · obtain ⟨hcount, hstate⟩ := failAttempt_counts p b
    exact ⟨_, exec_attemptBoundPasses hrun hattempt hpassed, rfl, hcount, hstate⟩
  · refine congrArg Host.Outcome.next (event_of_not_due hrun fun ⟨hattempt, hpassed⟩ => ?_)
    rcases hidle with hstate | hbefore
    · exact hstate hattempt
    · exact Bool.eq_false_iff.mp hbefore hpassed
  · have hbegun := beginTraining_begun p .wakeTimeout .r3_2 b
    exact ⟨_, exec_wakeBoundPasses hrun hwaking hpassed, rfl, beginTraining_training p _ _ b,
      by rw [hbegun.record]⟩
  · refine congrArg Host.Outcome.next (event_of_not_due hrun fun ⟨hwaking, hpassed⟩ => ?_)
    rcases hidle with hstate | hbefore
    · exact hstate hwaking
    · exact Bool.eq_false_iff.mp hbefore hpassed

end Sys2Proof.CreditFlits
end

section
/-! Credit overrun (O9): R110's condition, and the training it begins. -/

namespace Sys2Proof.CreditOverrun

open Sys2Proof.Machine Sys2Proof.Safety Sys2Proof.Laws Sys2Proof.PushedPackets
open Sys2Proof.CreditAccounts (beginTraining_training)
open Sys2Proof.QueryTables (event_of_due)

/-- A record raised enters first, before what its notification brings about. -/
theorem raise_adds (r : Record) (b : Bridge) : PushAdds (b.enterRecord r) (raise r b) := by
  unfold raise
  rcases recordWith_cases push r b with h | h <;> rw [h]
  · exact .refl _
  · exact (notifyWith_effects push_pushed 0 _).adds

/-- What ends with a port's traffic takes no record away. -/
theorem endTraffic_capture (p : Port) (b : Bridge) :
    b.capture <+: (endTraffic p b).capture ∧ (b.overflowed = true → (endTraffic p b).overflowed = true) := by
  have hdrain : PushAdds
      ((b.onRecv p fun r => { r with ackDue := false, nakDue := false }).onSend p
        fun s => { s with timerStart := none, replayPos := none })
      (endTraffic p b) := (failDrainWith_effects push_pushed p _).adds
  have hcapture := hdrain.capture
  have hflag := hdrain.overflowed
  rw [capture_onSend, capture_onRecv] at hcapture
  rw [overflowed_onSend, overflowed_onRecv] at hflag
  exact ⟨hcapture, hflag⟩

/-- The records held at a training's beginning stay, and the overflowed flag with them. -/
theorem beginTraining_capture (p : Port) (cause : Cause) (carried : Rate) (b : Bridge) :
    b.capture <+: (beginTraining p cause carried b).capture ∧
      (b.overflowed = true → (beginTraining p cause carried b).overflowed = true) := by
  have hended := endTraffic_capture p b
  unfold beginTraining
  generalize endTraffic p b = e at hended
  exact hended

/-- R110's condition, in the numbers of the manual. -/
theorem overrun_iff (b : Bridge) (p : Port) (k : Packet) : b.overrun p k = true ↔
    (b.account p k.cls).outstanding.headers - 1 < -((b.account p k.cls).allowance.headers : Int) ∨
      (b.account p k.cls).outstanding.blocks - (k.blocks.toNat : Int) < -((b.account p k.cls).allowance.blocks : Int) ∨
      48 < (b.occupiedAll p).headers + 1 ∨ 96 < (b.occupiedAll p).blocks + k.blocks.toNat := by
  simp only [Bridge.overrun, Bool.or_eq_true, decide_eq_true_eq, or_assoc]
  rfl

/-- The expected packet of an ACTIVE port that is an overrun: its record, then the training (06 R110). -/
theorem exec_overrun {p : Port} {f : RxFrame} {s : State} (hrun : running s) (hactive : s.bridge.isActive p = true)
    (hgood : goodFrame f = true) (hseq : f.seq = (s.bridge.port p).recv.expected)
    (hover : s.bridge.overrun p (framePacket f) = true) :
    exec (.packetReceived p f) s = .next { s with
      bridge := beginTraining p .creditOverrun .r3_2
        (raise (overrunRecord p (framePacket f) s.bridge.timeBase) s.bridge) } := by
  have hjudged : judgeFrame p f s.bridge = beginTraining p .creditOverrun .r3_2
      (raise (overrunRecord p (framePacket f) s.bridge.timeBase) s.bridge) := by
    simp [judgeFrame, hgood, hseq, takeExpected, hover]
  rw [← hjudged]
  exact congrArg _ (event_of_due hrun hactive)

/-- Settles O9: the condition is R110's own, and an overrun raises its record and begins a training. -/
theorem creditOverrunRetrains : Obligations.CreditOverrunRetrains := by
  unfold Obligations.CreditOverrunRetrains
  intro p f s hrun hactive hgood hseq b k a all tooMuch
  refine ⟨rfl, rfl, overrun_iff b p k, fun hmuch => ?_⟩
  have hexec := exec_overrun hrun hactive hgood hseq ((overrun_iff b p k).mpr hmuch)
  have hraised := raise_keeps (overrunRecord p k b.timeBase) b
  have hadds := raise_adds (overrunRecord p k b.timeBase) b
  obtain ⟨hcapture, hflag⟩ := beginTraining_capture p .creditOverrun .r3_2 (raise (overrunRecord p k b.timeBase) b)
  have hbegun := beginTraining_begun p .creditOverrun .r3_2 (raise (overrunRecord p k b.timeBase) b)
  refine ⟨_, hexec, fun hroom => ?_, fun hfull => ?_, ?_, ?_, ?_, beginTraining_training .., ?_, ?_⟩
  · refine (hadds.capture.trans hcapture).subset ?_
    rcases enterRecord_cases b (overrunRecord p k b.timeBase) with ⟨hentered, -⟩ | ⟨hfull, -⟩
    · rw [hentered]
      exact List.mem_append_right _ (List.mem_singleton_self _)
    · omega
  · refine hflag (hadds.overflowed ?_)
    simp [Bridge.enterRecord, Config.capturePlaces, Nat.not_lt.mpr hfull]
  · exact (hbegun.ingress p).trans (hraised.ingress p)
  · rw [← hraised.recv p]
    exact hbegun.recv
  · rw [← hraised.send p]
    exact hbegun.send
  · rw [hbegun.record]
  · exact hbegun.tables.trans hraised.tables

end Sys2Proof.CreditOverrun
end

section
/-! The CONFIG exchange (O11, O12): what a port's own CONFIG flit sets and sends, and what the partner's does. -/

namespace Sys2Proof.ConfigExchange

open Sys2Proof.Machine Sys2Proof.Safety Sys2Proof.Laws
open Sys2Proof.CreditFlits (emitConfig_eq perClass_get_map)
open Sys2Proof.CreditAccounts (atConfig_account sendConfig_port beginTraining_training)

/-! ### The port's own CONFIG flit -/

/-- The port as its CONFIG flit is formed: its Ingress Buffer has been set (06 R111). -/
def atConfigFlit (x : PortState) : PortState := { x with ingress := x.ingress.atConfig (!x.training.planTaken) }

/-- What a port puts on its lanes at its CONFIG flit (08 R134). -/
theorem sendConfig_out (p : Port) (b : Bridge) : ((sendConfig p b).port p).out =
    (b.port p).out ++
      (if (b.port p).recv.delivered then
        [⟨.flit (.ack ((b.port p).recv.expected - 1)), (b.port p).training.usable⟩] else []) ++
      [⟨.flit (.config (configFlit (atConfigFlit (b.port p)))), (b.port p).training.usable⟩] := by
  unfold sendConfig
  dsimp only
  rw [emitConfig_eq]
  cases hdelivered : (b.port p).recv.delivered <;> simp [configAck, hdelivered, configFlit, atConfigFlit]

theorem configFlit_credits (x : PortState) (c : Cls) :
    ((configFlit x).credits.get c) = (x.ingress.account.get c).outstanding.map signedByte :=
  perClass_get_map ..

theorem configFlit_maxWidth (x : PortState) :
    x.training.usable = some (configFlit x).maxWidth ∨ x.training.usable = none := by
  cases h : x.training.usable with
  | none => exact .inr rfl
  | some w => exact .inl (by simp [configFlit, h])

/-- The plan a CONFIG flit puts in force: the pending one at the first of a training (06 R111). -/
theorem atConfig_plan (x : Ingress) (taken : Bool) :
    (x.atConfig (!taken)).activePlan = if taken then x.activePlan else x.pendingPlan := by
  cases taken <;> rfl

/-- Settles O11: the Ingress Buffer after R111, and the items sent. -/
theorem configFlitSetsReceiveAccount : Obligations.ConfigFlitSetsReceiveAccount := by
  unfold Obligations.ConfigFlitSetsReceiveAccount
  intro p b c x y plan a initialHeaders initialBlocks
  have hingress : y.ingress = x.ingress.atConfig (!x.training.planTaken) := (sendConfig_port p b).1
  have hplan : (x.ingress.atConfig (!x.training.planTaken)).activePlan = plan := atConfig_plan _ _
  have haccount : (x.ingress.atConfig (!x.training.planTaken)).account.get c = a.atConfig (plan.get c) := by
    rw [atConfig_account, hplan]
  refine ⟨hingress ▸ hplan, by rw [hingress]; rfl, by rw [hingress]; rfl, by rw [hingress, haccount]; rfl,
    configFlit (atConfigFlit x), sendConfig_out p b, rfl, rfl, configFlit_maxWidth _, ?_, ?_⟩
  all_goals
    rw [configFlit_credits, atConfigFlit, haccount]
    rfl

/-! ### Rates, widths, lanes and debt -/

theorem rate_min_code (a b : Rate) : (Rate.min a b).code.toNat = min a.code.toNat b.code.toNat := by
  cases a <;> cases b <;> rfl

theorem width_min_lanes (a b : Width) : (Width.min a b).lanes = min a.lanes b.lanes := by
  cases a <;> cases b <;> rfl

theorem markInUse_get (lanes : Vector LaneRec 16) (w : Width) (i : Fin 16) :
    (markInUse lanes w)[i] = { lanes[i] with inUse := lanes[i].inUse || decide (i.val < w.lanes) } := by
  simp [markInUse]

/-- Costs added up one after another: a header each, and their blocks (06 R105). -/
theorem foldl_cost (l : List Framed) (a : Amount Nat) :
    l.foldl (fun a f => a.zip (· + ·) f.pkt.cost) a =
      ⟨a.headers + l.length, a.blocks + (l.map fun f => f.pkt.blocks.toNat).sum⟩ := by
  induction l generalizing a with
  | nil => rfl
  | cons f l ih =>
    rw [List.foldl_cons, ih]
    simp only [Amount.zip, Packet.cost, List.length_cons, List.map_cons, List.sum_cons, Amount.mk.injEq]
    omega

theorem replayDebt_eq (l : List Framed) (c : Cls) : replayDebt l c =
    ⟨(l.filter fun f => f.pkt.cls == c).length,
      ((l.filter fun f => f.pkt.cls == c).map fun f => f.pkt.blocks.toNat).sum⟩ := by
  simp [replayDebt, foldl_cost, Amount.both]

/-! ### The partner's CONFIG flit -/

/-- The replay buffer numbered afresh where the partner's numbers have restarted (07 R127). -/
def numbered (buffer : List Framed) (restart : Bool) : List Framed :=
  if restart then buffer.mapIdx fun i f => frame (BitVec.ofNat 12 i) f.pkt else buffer

/-- What a kept ACK leaves of the replay buffer (07 R118, R126). -/
def unacknowledged (buffer : List Framed) (ack : Option Seq) : List Framed :=
  match ack with
  | none => buffer
  | some n =>
    let oldest := (buffer.head?.map Framed.seq).getD 0
    if (n - oldest).toNat < buffer.length then buffer.drop ((n - oldest).toNat + 1) else buffer

/-- The port renumbered where the restart flag is set (07 R127). -/
def renumberedPort (x : PortState) (restart : Bool) : PortState :=
  if restart then { x with send := x.send.renumbered, recv := x.recv.partnerRestarted } else x

theorem renumber_eq (p : Port) (b : Bridge) (restart : Bool) :
    (if restart then renumber p b else b) = b.setPort p (renumberedPort (b.port p) restart) := by
  cases restart <;> simp [renumberedPort, renumber, Bridge.onSend, Bridge.onRecv, Bridge.onPort]

theorem renumberedPort_send (x : PortState) (restart : Bool) :
    (renumberedPort x restart).send.buffer = numbered x.send.buffer restart ∧
      (renumberedPort x restart).send.nextSeq =
        if restart then BitVec.ofNat 12 x.send.buffer.length else x.send.nextSeq := by
  cases restart
  · exact ⟨rfl, rfl⟩
  · exact ⟨by simp [renumberedPort, numbered, SendSide.renumbered, reframe_eq], rfl⟩

/-- The send side after the kept ACK, where there is one. -/
def ackTaken (s : SendSide) (ack : Option Seq) : SendSide :=
  match ack with
  | none => s
  | some n => s.ackedAtConfig n

theorem ackTaken_nextSeq (s : SendSide) (ack : Option Seq) : (ackTaken s ack).nextSeq = s.nextSeq := by
  unfold ackTaken
  split
  · rfl
  · unfold SendSide.ackedAtConfig
    dsimp only
    split <;> rfl

theorem ackTaken_buffer (s : SendSide) (ack : Option Seq) :
    (ackTaken s ack).buffer = unacknowledged s.buffer ack := by
  obtain ⟨nextSeq, buffer, timerStart, replayCount, replayPos⟩ := s
  cases ack with
  | none => rfl
  | some n =>
    cases buffer with
    | nil => rfl
    | cons f fs =>
      by_cases hnames : (n - f.seq).toNat < (f :: fs).length
      · have hcount : SendSide.ackCount ⟨nextSeq, f :: fs, timerStart, replayCount, replayPos⟩ n =
            (n - f.seq).toNat + 1 := if_pos hnames
        have hleft : unacknowledged (f :: fs) (some n) = (f :: fs).drop ((n - f.seq).toNat + 1) := if_pos hnames
        simp [ackTaken, SendSide.ackedAtConfig, hcount, hleft]
      · have hcount : SendSide.ackCount ⟨nextSeq, f :: fs, timerStart, replayCount, replayPos⟩ n = 0 := if_neg hnames
        have hleft : unacknowledged (f :: fs) (some n) = f :: fs := if_neg hnames
        simp [ackTaken, SendSide.ackedAtConfig, hcount, hleft]

/-- The port after the partner's CONFIG flit has acted on its numbering and send account (06 R112, 07 R126). -/
def absorbedPort (x : PortState) (c : ConfigFlit) : PortState :=
  let y := renumberedPort x c.restart
  let acked := ackTaken y.send y.training.keptAck
  { y with
    record := { y.record with partnerMax := c.maxRate },
    training := { y.training with keptAck := none, keptConfig := none },
    credit := freshCredits c acked.buffer,
    send := { acked with replayCount := 0 },
    recv := { y.recv with nakOutstanding := false } }

theorem absorbConfig_eq (p : Port) (c : ConfigFlit) (b : Bridge) :
    absorbConfig p c b = b.setPort p (absorbedPort (b.port p) c) := by
  unfold absorbConfig absorbedPort
  rw [renumber_eq]
  generalize renumberedPort (b.port p) c.restart = y
  dsimp only
  rw [port_setPort_self]
  cases y.training.keptAck <;>
    simp [ackTaken, Bridge.onPort, Bridge.onSend, Bridge.onRecv, Bridge.onRecord, Bridge.onTraining]

/-- The port as it enters ACTIVE at a width (08 R135). -/
def activePort (x : PortState) (w : Width) (now : Time) : PortState :=
  { x with
    record := { x.record with state := .active, width := some w, attempts := 0 },
    training := { x.training with restartFlag := false },
    lanes := markInUse x.lanes w,
    ingress := { x.ingress with lastCredit := now },
    send := x.send.resumed }

theorem enterActive_eq (p : Port) (w : Width) (b : Bridge) :
    enterActive p w b = settleRetrain p (b.setPort p (activePort (b.port p) w b.timeBase)) := by
  simp [enterActive, becomeActive, activePort, Bridge.setLinkState, Bridge.onPort, Bridge.onSend, Bridge.onRecord,
    Bridge.onTraining]

/-- What a port that takes the partner's CONFIG flit enters ACTIVE with, piece by piece. -/
def enteredPort (x : PortState) (w : Width) (c : ConfigFlit) (now : Time) : PortState :=
  let left := unacknowledged (numbered x.send.buffer c.restart) x.training.keptAck
  { x with
    record := { x.record with state := .active, width := some w, attempts := 0, partnerMax := c.maxRate },
    training := { x.training with keptAck := none, keptConfig := none, restartFlag := false },
    lanes := markInUse x.lanes w,
    ingress := { x.ingress with lastCredit := now },
    credit := freshCredits c left,
    send :=
      { nextSeq := if c.restart then BitVec.ofNat 12 x.send.buffer.length else x.send.nextSeq, buffer := left,
        replayCount := 0, timerStart := none, replayPos := if left = [] then none else some 0 },
    recv :=
      if c.restart then
        { x.recv with expected := 0, nakOutstanding := false, unacked := 0, ackBound := none, delivered := false }
      else { x.recv with nakOutstanding := false } }

theorem resumed_eq (s : SendSide) : ({ s with replayCount := 0 } : SendSide).resumed =
    { nextSeq := s.nextSeq, buffer := s.buffer, replayCount := 0, timerStart := none,
      replayPos := if s.buffer = [] then none else some 0 } := by
  simp [SendSide.resumed]

theorem activePort_absorbedPort (x : PortState) (w : Width) (c : ConfigFlit) (now : Time) :
    activePort (absorbedPort x c) w now = enteredPort x w c now := by
  have htraining : (renumberedPort x c.restart).training = x.training := by
    unfold renumberedPort
    split <;> rfl
  obtain ⟨hbuffer, hnext⟩ := renumberedPort_send x c.restart
  unfold activePort absorbedPort enteredPort
  dsimp only
  rw [resumed_eq, ackTaken_buffer, ackTaken_nextSeq, hbuffer, hnext, htraining]
  cases c.restart <;> rfl

theorem below_of_ge {a b : Rate} (h : a.code.toNat ≥ b.code.toNat) : a.below b = false :=
  decide_eq_false (Nat.not_lt.mpr h)

/-- At an agreed rate not below the link rate the partner's CONFIG flit takes the port to ACTIVE (08 R134, R135). -/
theorem takeConfig_enters {p : Port} {c : ConfigFlit} {w : Width} {b : Bridge}
    (husable : (b.port p).training.usable = some w)
    (hrate : (Rate.min (b.port p).record.inForce.rateCap c.maxRate).code.toNat ≥ (b.port p).record.rate.code.toNat) :
    takeConfig p c b =
      settleRetrain p (b.setPort p (enteredPort (b.port p) (Width.min w c.maxWidth) c b.timeBase)) := by
  have hsame : (absorbedPort (b.port p) c).record = { (b.port p).record with partnerMax := c.maxRate } ∧
      (absorbedPort (b.port p) c).training.usable = some w := by
    rw [← husable]
    unfold absorbedPort renumberedPort
    dsimp only
    split <;> exact ⟨rfl, rfl⟩
  obtain ⟨hrecord, hwidth⟩ := hsame
  unfold takeConfig
  simp only [absorbConfig_eq, port_setPort_self, hrecord, hwidth, below_of_ge hrate, Bool.false_eq_true, if_false,
    Option.getD_some, enterActive_eq, setPort_setPort, activePort_absorbedPort, timeBase_setPort]

theorem exec_configReceived {p : Port} {f : RawFlit} {c : ConfigFlit} {s : State} (hrun : running s)
    (hf : readFlit f = some (.config c)) (hconfig : s.bridge.linkState p = .config) :
    exec (.configReceived p f) s = .next { s with bridge := takeConfig p c s.bridge } := by
  show Host.Outcome.next (s.event _) = _
  rw [event_high s _ hrun, State.onBridge, hf]
  simp only [meetConfig, hconfig]

/-! ### A listed LINK_RETRAIN (08 R141) -/

theorem retrains_of_op {d : Deferred} {p : Port} {began : Bool} (h : d.op = .retrain p began) :
    d.retrains p = true := by
  simp [Deferred.retrains, h]

theorem retrainRuns_iff (b : Bridge) (p : Port) :
    retrainRuns b p = true ↔ ∃ d ∈ b.engine.deferred, d.op = .retrain p true := by
  refine List.any_eq_true.trans (exists_congr fun d => and_congr_right fun _ => ?_)
  cases d.op <;> simp

theorem settleRetrain_of_none {p : Port} {b : Bridge} (h : b.engine.deferred.find? (·.retrains p) = none) :
    settleRetrain p b = b := by
  have hnone := List.find?_eq_none.mp h
  have hidle : ¬retrainRuns b p = true := by
    rw [retrainRuns_iff]
    exact fun ⟨d, hd, hop⟩ => hnone d hd (retrains_of_op hop)
  have hunlisted : ¬b.engine.deferred.any (·.retrains p) = true := by
    rw [List.any_eq_true]
    exact fun ⟨d, hd, hp⟩ => hnone d hd hp
  rw [settleRetrain, if_neg hidle, if_neg hunlisted]

/-- One whose training ran is answered. -/
theorem settleRetrain_of_running {p : Port} {b : Bridge} {d : Deferred}
    (h : b.engine.deferred.find? (·.retrains p) = some d) (hop : d.op = .retrain p true) :
    settleRetrain p b = deliver (d.reply b.unit .ok (retrainData b p))
      (b.onEngine fun e => { e with deferred := e.deferred.eraseP (·.retrains p) }) := by
  have hruns : retrainRuns b p = true := (retrainRuns_iff b p).mpr ⟨d, List.mem_of_find?_eq_some h, hop⟩
  rw [settleRetrain, if_pos hruns, answerRetrain]
  simp only [h, unit_onEngine]

/-- One that waited begins its training. -/
theorem settleRetrain_of_waiting {p : Port} {b : Bridge} (h : b.engine.deferred.any (·.retrains p) = true)
    (hop : ∀ d ∈ b.engine.deferred, d.op ≠ .retrain p true) :
    settleRetrain p b = beginTraining p .retrain .r3_2
      (b.onEngine fun e => { e with deferred := e.deferred.map (Deferred.started p) }) := by
  have hidle : ¬retrainRuns b p = true := by
    rw [retrainRuns_iff]
    exact fun ⟨d, hd, hrun⟩ => hop d hd hrun
  rw [settleRetrain, if_neg hidle, if_pos h]

/-- Settles O12: the port as it enters ACTIVE, and there by the listed LINK_RETRAIN. -/
theorem configTakenEntersActive : Obligations.ConfigTakenEntersActive := by
  unfold Obligations.ConfigTakenEntersActive
  refine ⟨rate_min_code, width_min_lanes, markInUse_get, replayDebt_eq, ?_⟩
  intro p f c w s hrun hf b x hconfig husable hrate width numbered oldest left held entered
  have hexec : exec (.configReceived p f) s = .next { s with bridge := settleRetrain p entered } := by
    rw [exec_configReceived hrun hf hconfig, takeConfig_enters husable hrate]
    rfl
  refine ⟨fun hnone => ?_, fun d hlisted hop => ?_, fun hlisted hop => ?_⟩
  · rw [hexec, settleRetrain_of_none (b := entered) hnone]
  · rw [hexec, settleRetrain_of_running (b := entered) hlisted hop]
    have hdata : retrainData entered p =
        [Port.code p, BitVec.ofNat 8 width.lanes, x.record.rate.code.zeroExtend 8] := by
      simp only [retrainData, entered, port_setPort_self]
      rfl
    rw [hdata, Deferred.reply, hop]
    rfl
  · rw [hexec, settleRetrain_of_waiting (b := entered) hlisted hop]
    refine ⟨_, rfl, beginTraining_training .., ?_⟩
    rw [(beginTraining_begun ..).record]

end Sys2Proof.ConfigExchange
end

section
/-! What reaches the ports through pushes alone (used by O56): the operations on tables, lines and the engine leave each
port as the pushes, records and replies among them may leave it, and write nothing else there. -/

namespace Sys2Proof.PortPushes

open Sys2Proof.Machine Sys2Proof.Laws

/-- The ports of `b'` are as pushes, records, notifications and replies may leave those of `b`; of the rest of the part
nothing is said. -/
def PortsPushed (b b' : Bridge) : Prop := PushKeeps b { b with ports := b'.ports }

/-! ### Chains of operations -/

/-- What a push keeps of the ports does not depend on the part around them. -/
theorem portsPushed_around {b b' : Bridge} (h : PushKeeps b b') (a : Bridge) :
    PushKeeps { a with ports := b.ports } { a with ports := b'.ports } where
  timeBase := rfl
  rstLow := rfl
  unit := rfl
  slots := rfl
  groups := rfl
  miss := rfl
  tables := rfl
  deadlineMs := rfl
  quarantineMs := rfl
  freeCtr := rfl
  leafOpen := rfl
  resetForwarding := rfl
  ingress := h.ingress
  credit := h.credit
  send := h.send
  recv := h.recv
  lanes := h.lanes
  start := h.start
  current := h.current
  record := h.record
  linkState := h.linkState

theorem PortsPushed.of_pushKeeps {b b' : Bridge} (k : PushKeeps b b') : PortsPushed b b' := portsPushed_around k b

theorem PortsPushed.of_ports {b b' : Bridge} (h : b'.ports = b.ports) : PortsPushed b b' := by
  unfold PortsPushed
  rw [h]
  exact PushKeeps.refl b

theorem PortsPushed.refl (b : Bridge) : PortsPushed b b := .of_ports rfl

theorem PortsPushed.trans {a b c : Bridge} (h : PortsPushed a b) (k : PortsPushed b c) : PortsPushed a c :=
  PushKeeps.trans h (portsPushed_around k a)

theorem PortsPushed.push {a b b' : Bridge} (h : PortsPushed a b) (k : PushKeeps b b') : PortsPushed a b' :=
  h.trans (.of_pushKeeps k)

theorem PortsPushed.foldl {α : Type} {f : Bridge → α → Bridge} (hf : ∀ x b, PortsPushed b (f b x)) (l : List α)
    (b : Bridge) : PortsPushed b (l.foldl f b) := by
  induction l generalizing b with
  | nil => exact .refl b
  | cons x l ih => exact (hf x b).trans (ih (f b x))

/-! ### Entries and slots -/

theorem releaseSlot_pushed (i : Fin 32) (b : Bridge) : PortsPushed b (releaseSlot i b) := by
  unfold releaseSlot
  dsimp only
  split
  · exact (PortsPushed.of_ports (ports_setSlot ..)).push (answerRetire_keeps i _)
  · exact .of_ports rfl

theorem freeEntry_pushed (d : Dir) (e : Fin 64) (b : Bridge) : PortsPushed b (freeEntry d e b) := by
  unfold freeEntry
  dsimp only
  split
  · exact .of_ports rfl
  · exact (PortsPushed.of_ports (ports_setEntry ..)).trans (releaseSlot_pushed _ _)

theorem owe_pushed (d : Dir) (e : Fin 64) (status : Status) (b : Bridge) : PortsPushed b (owe d e status b) :=
  .of_ports rfl

theorem pushOwed_pushed (d : Dir) (e : Fin 64) (b : Bridge) : PortsPushed b (pushOwed d e b) := by
  have hdone := PortsPushed.of_pushKeeps (push_keeps (Push.plain d.requesterPort (owedDone b.unit (b.entry d e))) b)
  unfold pushOwed
  dsimp only
  split
  · exact hdone.trans (freeEntry_pushed d e _)
  · exact hdone.trans (.of_ports rfl)

theorem passDeadline_pushed (d : Dir) (e : Fin 64) (b : Bridge) : PortsPushed b (passDeadline d e b) :=
  (owe_pushed d e .timeout b).push (raise_keeps _ _)

theorem passQuarantine_pushed (d : Dir) (e : Fin 64) (b : Bridge) : PortsPushed b (passQuarantine d e b) := by
  unfold passQuarantine
  dsimp only
  split
  · exact (freeEntry_pushed d e b).push (raise_keeps _ _)
  · exact .of_ports rfl
  · exact freeEntry_pushed d e b

theorem farPortLost_pushed (d : Dir) (e : Fin 64) (b : Bridge) : PortsPushed b (farPortLost d e b) := by
  unfold farPortLost
  dsimp only
  generalize (if (b.entry d e).pos == .queued then { b.entry d e with pos := .cleared } else b.entry d e) = x
  split
  · exact .refl b
  · exact .of_ports rfl
  · exact .of_ports rfl
  · split
    · exact (PortsPushed.of_ports (ports_setEntry ..)).trans (freeEntry_pushed d e _)
    · exact .refl b

theorem queryTransmitted_pushed (m : Mark) (b : Bridge) : PortsPushed b (queryTransmitted m b) := by
  unfold queryTransmitted
  dsimp only
  split
  · exact .refl b
  · exact .of_ports rfl

/-! ### Routes carried out -/

theorem allocate_pushed (d : Dir) (k : Packet) (slot : Option (Fin 32)) (b : Bridge) :
    PortsPushed b (allocate d k slot b) := by
  unfold allocate
  split
  · exact .refl b
  · refine (PortsPushed.of_ports ?_).push (push_keeps _ _)
    cases slot <;> rfl

theorem setLine_notifyIfDue_pushed (b : Bridge) (i : Fin 64) (l : Line) :
    PortsPushed b (notifyIfDue i (b.setLine i l)) :=
  .of_pushKeeps ((setLine_keeps b i l).trans (notifyIfDue_keeps i _))

theorem setLine_cancelNotification_pushed (b : Bridge) (i : Fin 64) (l : Line) :
    PortsPushed b (cancelNotification i (b.setLine i l)) :=
  .of_pushKeeps ((setLine_keeps b i l).trans (cancelNotification_keeps i _))

theorem takeLevel_pushed (i : Fin 64) (level : Bool) (unit : UnitNo) (b : Bridge) :
    PortsPushed b (takeLevel i level unit b) := by
  unfold takeLevel
  split
  · exact setLine_notifyIfDue_pushed b i _
  · exact setLine_cancelNotification_pushed b i _

theorem restoreReply_pushed (d : Dir) (e : Fin 64) (k : Packet) (b : Bridge) :
    PortsPushed b (restoreReply d e k b) := by
  have hreply := PortsPushed.of_pushKeeps (push_keeps (Push.plain d.requesterPort (restored (b.entry d e) k)) b)
  unfold restoreReply
  dsimp only
  split
  · exact hreply.trans (freeEntry_pushed d e _)
  · exact hreply.trans (.of_ports rfl)

theorem dropReply_pushed (d : Dir) (e : Fin 64) (k : Packet) (b : Bridge) : PortsPushed b (dropReply d e k b) := by
  unfold dropReply
  dsimp only
  split
  · exact .of_pushKeeps (raise_keeps _ b)
  split
  · exact (owe_pushed d e .failed b).push (raise_keeps _ _)
  · exact (PortsPushed.of_ports (ports_setEntry ..)).push (raise_keeps _ _)
  · refine PortsPushed.push ?_ (raise_keeps _ _)
    split
    · exact freeEntry_pushed d e b
    · exact .refl b
  · exact .refl b

theorem takeNotice_pushed (d : Dir) (e : Fin 64) (final : Bool) (b : Bridge) :
    PortsPushed b (takeNotice d e final b) := by
  unfold takeNotice
  dsimp only
  split
  · exact .refl b
  split
  · exact .refl b
  · exact owe_pushed d e .failed b
  · exact .of_ports rfl
  · split
    · exact freeEntry_pushed d e b
    · exact .refl b

theorem carryOut_pushed (r : Route) (b : Bridge) : PortsPushed b (r.carryOut b) := by
  cases r with
  | single x => exact .of_pushKeeps (push_keeps x b)
  | entry d k slot => exact allocate_pushed d k slot b
  | earlyAck x y => exact .of_pushKeeps (pushBoth_keeps x y b)
  | answer x rec => exact .of_pushKeeps ((push_keeps x b).trans (raiseIf_keeps rec _))
  | engine c => exact .of_ports rfl
  | signal i level unit => exact takeLevel_pushed i level unit b
  | restore d e k => exact restoreReply_pushed d e k b
  | badReply d e k => exact dropReply_pushed d e k b
  | discard rec => exact .of_pushKeeps (raise_keeps rec b)
  | notice rec d e final => exact (takeNotice_pushed d e final b).push (raise_keeps rec _)

/-! ### Resets and the time base -/

theorem downEntryReset_pushed (e : Fin 64) (b : Bridge) : PortsPushed b (downEntryReset e b) := by
  unfold downEntryReset
  dsimp only
  split
  · exact .of_ports rfl
  · split
    · exact freeEntry_pushed _ e b
    · exact .of_ports rfl
  · exact .refl b
  · exact .refl b

theorem upEntryReset_pushed (e : Fin 64) (b : Bridge) : PortsPushed b (upEntryReset e b) := by
  unfold upEntryReset
  dsimp only
  split
  · exact .refl b
  · exact .of_ports rfl
  · exact .of_ports rfl
  · exact freeEntry_pushed _ e b

theorem resetTables_pushed (forwarding : Bool) (b : Bridge) : PortsPushed b (resetTables forwarding b) := by
  unfold resetTables
  split
  · exact (PortsPushed.foldl (freeEntry_pushed .down) _ b).trans (PortsPushed.foldl (freeEntry_pushed .up) _ _)
  · exact (PortsPushed.foldl downEntryReset_pushed _ b).trans (PortsPushed.foldl upEntryReset_pushed _ _)

theorem enterFlushRecords_pushed (rs : List Record) (b : Bridge) : PortsPushed b (enterFlushRecords rs b) :=
  (PortsPushed.of_ports (b := b) (b' := { b with freeCtr := b.freeCtr + rs.length }) rfl).trans
    (PortsPushed.foldl (fun r b => .of_pushKeeps (enterRecord_keeps b r)) _ _)

theorem resetLines_pushed (forwarding : Bool) (b : Bridge) :
    PortsPushed b ((resetLines forwarding b).forLines notifyIfDue) :=
  (PortsPushed.of_ports (b := b) (b' := resetLines forwarding b) rfl).trans
    (PortsPushed.foldl (fun i b => .of_pushKeeps (notifyIfDue_keeps i b)) _ _)

theorem tick_pushed (b : Bridge) : PortsPushed b b.tick := by
  unfold Bridge.tick
  split
  · exact .refl b
  · exact .of_ports rfl

end Sys2Proof.PortPushes
end

section
/-! Replay buffers (O56): each holds at most 32 frames with consecutive numbers and good check values, and a replay
stands in ACTIVE alone. A send side is written by a first transmission, by what an ACK or a NAK removes, by a replay, by
renumbering and by restarts; the rest leaves it (`SameReplay`), and a port leaves ACTIVE only with its replay ended. -/

namespace Sys2Proof.ReplayBuffers

open Sys2Proof.Machine Sys2Proof.Safety Sys2Proof.Laws Sys2Proof.PortPushes
open Sys2Proof.WindowReferences (verdictPart)
open Sys2Proof.CreditAccounts (portsReset WritesNoPort accessSet_noPort portStatus_noPort laneRead_noPort
  windowLoad_noPort windowActivate_noPort windowRetire_noPort windowDiscard_noPort windowRead_noPort groupSet_noPort
  groupRead_noPort missPolicySet_noPort timerSet_noPort queryRead_noPort signalRead_noPort captureRead_noPort
  captureClear_noPort)
open Sys2Proof.ConfigExchange (absorbConfig_eq absorbedPort renumberedPort ackTaken activePort enterActive_eq)

/-! ### Frames numbered consecutively -/

/-- The frames carry consecutive numbers up to the next one, each with the check value of its frame (07 R115). -/
def Numbered (next : Seq) (l : List Framed) : Prop :=
  ∀ (i : Nat) (h : i < l.length),
    l[i].seq = next - BitVec.ofNat 12 (l.length - i) ∧ l[i].check = frameCheck l[i].seq l[i].pkt

theorem numbered_nil (next : Seq) : Numbered next [] := nofun

theorem Numbered.drop {next : Seq} {l : List Framed} (h : Numbered next l) (m : Nat) : Numbered next (l.drop m) := by
  intro i hi
  have hlen : i < l.length - m := List.length_drop (l := l) ▸ hi
  have hplace : l.length - m - i = l.length - (m + i) := by omega
  simpa only [List.getElem_drop, List.length_drop, hplace] using h (m + i) (by omega)

theorem Numbered.append_frame {next : Seq} {l : List Framed} (h : Numbered next l) (k : Packet) :
    Numbered (next + 1) (l ++ [frame next k]) := by
  intro i hi
  rw [List.length_append, List.length_singleton] at hi
  by_cases hold : i < l.length
  · obtain ⟨hseq, hcheck⟩ := h i hold
    have hplace : l.length + 1 - i = l.length - i + 1 := by omega
    simp only [List.getElem_append_left hold, List.length_append, List.length_singleton, hplace]
    refine ⟨hseq.trans ?_, hcheck⟩
    rw [BitVec.ofNat_add]
    generalize BitVec.ofNat 12 (l.length - i) = back
    bv_omega
  · have hlast : i = l.length := by omega
    subst hlast
    have hget : (l ++ [frame next k])[l.length] = frame next k := List.getElem_concat_length rfl _
    simp only [hget, List.length_append, List.length_singleton, Nat.add_sub_cancel_left]
    exact ⟨(BitVec.add_sub_cancel next 1#12).symm, rfl⟩

theorem numbered_reframe (l : List Framed) : Numbered (BitVec.ofNat 12 l.length) (reframe 0 l) := by
  intro i hi
  rw [length_reframe] at hi
  have hsplit : BitVec.ofNat 12 l.length = BitVec.ofNat 12 i + BitVec.ofNat 12 (l.length - i) := by
    rw [← BitVec.ofNat_add, Nat.add_sub_cancel' (Nat.le_of_lt hi)]
  simp only [reframe_eq, List.getElem_mapIdx, List.length_mapIdx]
  refine ⟨?_, rfl⟩
  show 0#12 + BitVec.ofNat 12 i = _
  rw [hsplit, BitVec.zero_add, BitVec.add_sub_cancel]

theorem replaySound_iff {s : SendSide} : replaySound s ↔
    s.buffer.length ≤ 32 ∧ Numbered s.nextSeq s.buffer ∧ ∀ i, s.replayPos = some i → i < s.buffer.length := Iff.rfl

/-! ### What is done to a send side -/

/-- What the oldest frames' removal leaves is sound when the replay position is. -/
theorem replaySound_drop {s t : SendSide} (h : replaySound s) (m : Nat) (hnext : t.nextSeq = s.nextSeq)
    (hbuffer : t.buffer = s.buffer.drop m) (hpos : ∀ i, t.replayPos = some i → i < s.buffer.length - m) :
    replaySound t := by
  obtain ⟨hroom, hnumbered, -⟩ := replaySound_iff.mp h
  refine replaySound_iff.mpr ⟨?_, ?_, ?_⟩
  · rw [hbuffer, List.length_drop]
    omega
  · rw [hnext, hbuffer]
    exact hnumbered.drop m
  · rwa [hbuffer, List.length_drop]

/-- The replay position and the timer may change alone. -/
theorem replaySound_moved {s t : SendSide} (h : replaySound s) (hnext : t.nextSeq = s.nextSeq)
    (hbuffer : t.buffer = s.buffer) (hpos : ∀ i, t.replayPos = some i → i < s.buffer.length) : replaySound t :=
  replaySound_drop h 0 hnext hbuffer hpos

/-- A send side whose replay has ended. -/
theorem replaySound_stopped {s t : SendSide} (h : replaySound s) (hnext : t.nextSeq = s.nextSeq)
    (hbuffer : t.buffer = s.buffer) (hpos : t.replayPos = none) : replaySound t :=
  replaySound_moved h hnext hbuffer fun _ hi => nomatch hpos.symm.trans hi

theorem replaySound_restarted : replaySound SendSide.restarted := ⟨Nat.zero_le _, nofun, nofun⟩

theorem replaySound_renumbered {s : SendSide} (h : replaySound s) : replaySound s.renumbered := by
  refine replaySound_iff.mpr ⟨?_, numbered_reframe s.buffer, nofun⟩
  show (reframe 0 s.buffer).length ≤ 32
  rw [length_reframe]
  exact h.1

theorem replaySound_transmits {s : SendSide} (h : replaySound s) (hroom : s.buffer.length < 32) (k : Packet)
    (now : Time) : replaySound (s.transmits k now) := by
  obtain ⟨-, hnumbered, hpos⟩ := replaySound_iff.mp h
  refine replaySound_iff.mpr ⟨?_, hnumbered.append_frame k, fun i hi => ?_⟩
  · show (s.buffer ++ [frame s.nextSeq k]).length ≤ 32
    rw [List.length_append, List.length_singleton]
    exact hroom
  · have hold := hpos i hi
    simp only [SendSide.transmits, List.length_append, List.length_singleton]
    omega

/-- An ACK removes no more entries than there are (07 R118). -/
theorem ackCount_le (s : SendSide) (n : Seq) : s.ackCount n ≤ s.buffer.length := by
  unfold SendSide.ackCount
  split
  · exact Nat.zero_le _
  · split
    · assumption
    · exact Nat.zero_le _

/-- An ACK in ACTIVE moves the replay position back by what it removes; with nothing left the replay ends (07 R121). -/
theorem replaySound_acked {s : SendSide} (h : replaySound s) (n : Seq) (now : Time) : replaySound (s.acked n now) := by
  have hcount := ackCount_le s n
  unfold SendSide.acked
  dsimp only
  split
  · exact h
  · refine replaySound_drop h (s.ackCount n) rfl rfl fun i hi => ?_
    dsimp only at hi
    split at hi
    · cases hi
    · next hleft =>
      obtain ⟨j, hj, rfl⟩ := Option.map_eq_some_iff.mp hi
      have hplace := (replaySound_iff.mp h).2.2 j hj
      have hsome : (s.buffer.drop (s.ackCount n)).length ≠ 0 := by
        rwa [Ne, List.length_eq_zero_iff, ← List.isEmpty_iff]
      rw [List.length_drop] at hsome
      omega

theorem replaySound_ackedAtConfig {s : SendSide} (h : replaySound s) (hpos : s.replayPos = none) (n : Seq) :
    replaySound (s.ackedAtConfig n) ∧ (s.ackedAtConfig n).replayPos = none := by
  unfold SendSide.ackedAtConfig
  dsimp only
  split
  · exact ⟨h, hpos⟩
  · exact ⟨replaySound_drop h (s.ackCount n) rfl rfl fun _ hi => (nomatch hpos.symm.trans hi), hpos⟩

theorem replaySound_endReplay {s : SendSide} (h : replaySound s) (now : Time) : replaySound (s.endReplay now) := by
  unfold SendSide.endReplay
  split
  · exact replaySound_stopped h rfl rfl rfl
  · exact h

/-- A resent entry is followed by the next one, or the replay ends (07 R121). -/
theorem replaySound_resent {s : SendSide} (h : replaySound s) (i : Nat) (now : Time) :
    replaySound (s.resent i now) := by
  unfold SendSide.resent
  split
  · next hnext => exact replaySound_moved h rfl rfl fun j hj => by cases hj; exact hnext
  · exact replaySound_stopped h rfl rfl rfl

theorem replaySound_resumed {s : SendSide} (h : replaySound s) : replaySound s.resumed := by
  refine replaySound_moved h rfl rfl fun i hi => ?_
  by_cases hempty : s.buffer.isEmpty = true
  · simp [SendSide.resumed, hempty] at hi
  · have hzero : 0 = i := by simpa [SendSide.resumed, hempty] using hi
    rw [List.isEmpty_iff] at hempty
    rw [← hzero]
    exact List.length_pos_iff.mpr hempty

/-! ### The invariant, port by port -/

/-- What the invariant says of one port. -/
structure ReplayTrue (x : PortState) : Prop where
  sound : replaySound x.send
  idle : x.record.state ≠ .active → x.send.replayPos = none

theorem replayInv_iff {b : Bridge} : ReplayInv b ↔ ∀ p, ReplayTrue (b.port p) := by
  have hstate (p : Port) : b.isActive p = false ↔ (b.port p).record.state ≠ .active := beq_eq_false_iff_ne
  exact ⟨fun h p => ⟨(h p).1, fun hp => (h p).2 ((hstate p).mpr hp)⟩,
    fun h p => ⟨(h p).sound, fun hp => (h p).idle ((hstate p).mp hp)⟩⟩

/-- In a port that is not ACTIVE no replay stands. -/
theorem stopped_of_state {b : Bridge} (h : ReplayInv b) {p : Port} {x : LinkState} (hp : b.linkState p = x)
    (hx : x ≠ .active) : (b.port p).send.replayPos = none :=
  (replayInv_iff.mp h p).idle fun hactive => hx (hp.symm.trans hactive)

/-- An operation on one port keeps the invariant when it keeps it there. -/
theorem replayInv_of_port {b b' : Bridge} {p : Port} (h : ReplayInv b) (hother : ∀ q, q ≠ p → b'.port q = b.port q)
    (hp : ReplayTrue (b'.port p)) : ReplayInv b' := by
  rw [replayInv_iff] at h ⊢
  intro q
  by_cases hq : q = p
  · exact hq ▸ hp
  · exact hother q hq ▸ h q

/-- A port whose replay has ended may go to any state. -/
theorem replayInv_of_stopped {b b' : Bridge} {p : Port} (h : ReplayInv b)
    (hother : ∀ q, q ≠ p → b'.port q = b.port q) (hsound : replaySound (b'.port p).send)
    (hstop : (b'.port p).send.replayPos = none) : ReplayInv b' :=
  replayInv_of_port h hother ⟨hsound, fun _ => hstop⟩

/-- The operation keeps the invariant. -/
def KeepsReplay (f : Bridge → Bridge) : Prop := ∀ b, ReplayInv b → ReplayInv (f b)

/-- An operation on a send side of a port that stays in its state and moves its replay, if at all, in ACTIVE. -/
theorem onSend_replayInv {b : Bridge} {p : Port} {f : SendSide → SendSide} (h : ReplayInv b)
    (hsound : replaySound (f (b.port p).send)) (hidle : b.isActive p = false → (f (b.port p).send).replayPos = none) :
    ReplayInv (b.onSend p f) := by
  refine replayInv_of_port (p := p) h (fun q hq => port_onSend_other b f hq) ?_
  rw [port_onSend_self]
  exact ⟨hsound, fun hp => hidle (beq_eq_false_iff_ne.mpr hp)⟩

/-! ### What leaves the send sides -/

/-- Both send sides are as they were, and no port has left ACTIVE. -/
def SameReplay (b b' : Bridge) : Prop :=
  ∀ q, (b'.port q).send = (b.port q).send ∧ ((b.port q).record.state = .active → (b'.port q).record.state = .active)

theorem SameReplay.replayInv {b b' : Bridge} (hs : SameReplay b b') (h : ReplayInv b) : ReplayInv b' := by
  rw [replayInv_iff] at h ⊢
  intro q
  obtain ⟨hsend, hactive⟩ := hs q
  constructor
  · rw [hsend]
    exact (h q).sound
  · intro hq
    rw [hsend]
    exact (h q).idle fun hb => hq (hactive hb)

theorem SameReplay.refl (b : Bridge) : SameReplay b b := fun _ => ⟨rfl, id⟩

theorem SameReplay.trans {a b c : Bridge} (h : SameReplay a b) (k : SameReplay b c) : SameReplay a c := fun q =>
  ⟨(k q).1.trans (h q).1, fun hq => (k q).2 ((h q).2 hq)⟩

theorem SameReplay.of_pushed {b b' : Bridge} (h : PortsPushed b b') : SameReplay b b' := fun q =>
  ⟨h.send q, fun hq => beq_iff_eq.mp ((h.isActive q).trans (beq_iff_eq.mpr hq))⟩

theorem SameReplay.of_pushKeeps {b b' : Bridge} (k : PushKeeps b b') : SameReplay b b' :=
  .of_pushed (.of_pushKeeps k)

theorem SameReplay.of_ports {b b' : Bridge} (h : b'.ports = b.ports) : SameReplay b b' := .of_pushed (.of_ports h)

theorem SameReplay.foldl {α : Type} {f : Bridge → α → Bridge} (hf : ∀ x b, SameReplay b (f b x)) (l : List α)
    (b : Bridge) : SameReplay b (l.foldl f b) := by
  induction l generalizing b with
  | nil => exact .refl b
  | cons x l ih => exact (hf x b).trans (ih (f b x))

/-! ### Chains of updates that leave the send sides -/

section
variable {a b : Bridge}

theorem SameReplay.push (h : SameReplay a b) {b' : Bridge} (k : PushKeeps b b') : SameReplay a b' :=
  h.trans (.of_pushKeeps k)

theorem SameReplay.onPort (h : SameReplay a b) (p : Port) {f : PortState → PortState}
    (hsend : (f (b.port p)).send = (b.port p).send)
    (hstate : (b.port p).record.state = .active → (f (b.port p)).record.state = .active) :
    SameReplay a (b.onPort p f) := by
  refine h.trans fun q => ?_
  by_cases hq : q = p
  · subst hq
    rw [port_onPort_self]
    exact ⟨hsend, hstate⟩
  · rw [port_onPort_other b f hq]
    exact ⟨rfl, id⟩

theorem SameReplay.onRecv (h : SameReplay a b) (p : Port) (f : RecvSide → RecvSide) : SameReplay a (b.onRecv p f) :=
  h.onPort p rfl id

theorem SameReplay.onTraining (h : SameReplay a b) (p : Port) (f : Training → Training) :
    SameReplay a (b.onTraining p f) :=
  h.onPort p rfl id

theorem SameReplay.onRecord (h : SameReplay a b) (p : Port) {f : PortRecord → PortRecord}
    (hf : (b.port p).record.state = .active → (f (b.port p).record).state = .active) :
    SameReplay a (b.onRecord p f) :=
  h.onPort p rfl hf

theorem SameReplay.emit (h : SameReplay a b) (p : Port) (x : Sent) : SameReplay a (b.emit p x) := h.onPort p rfl id

theorem SameReplay.setQueue (h : SameReplay a b) (p : Port) (c : Cls) (q : List Queued) :
    SameReplay a (b.setQueue p c q) :=
  h.onPort p rfl id

theorem SameReplay.setPool (h : SameReplay a b) (p : Port) (c : Cls) (q : List Packet) :
    SameReplay a (b.setPool p c q) :=
  h.onPort p rfl id

theorem SameReplay.onAccount (h : SameReplay a b) (p : Port) (c : Cls) (f : RxAccount → RxAccount) :
    SameReplay a (b.onAccount p c f) :=
  h.onPort p rfl id

end

/-! ### Trainings -/

/-- An attempt begins at a port whose replay has ended (08 R131). -/
theorem beginAttempt_replayInv {b : Bridge} {p : Port} (h : ReplayInv b)
    (hstop : (b.port p).send.replayPos = none) (rate : Rate) : ReplayInv (beginAttempt p rate b) := by
  have hsend : ((beginAttempt p rate b).port p).send = (b.port p).send := by simp [beginAttempt]
  refine replayInv_of_stopped (p := p) h (fun q hq => by simp [beginAttempt, hq]) ?_ ?_
  · rw [hsend]
    exact (replayInv_iff.mp h p).sound
  · rwa [hsend]

/-- A port's traffic ends, and its replay with it, whatever state it goes to (07 R126). -/
theorem endTraffic_replayInv {b t : Bridge} {p : Port} (h : ReplayInv b) (hother : ∀ q, q ≠ p → t.port q = b.port q)
    (hsend : (t.port p).send = (b.port p).send) :
    ReplayInv (endTraffic p t) ∧ ((endTraffic p t).port p).send.replayPos = none := by
  have hended := SameReplay.of_pushKeeps (endTraffic_keeps p t)
  constructor
  · refine hended.replayInv ?_
    refine replayInv_of_stopped (p := p) h (fun q hq => by simp [hq, hother q hq]) ?_ (by simp)
    exact replaySound_stopped (replayInv_iff.mp h p).sound (by simp [hsend]) (by simp [hsend]) (by simp)
  · rw [(hended p).1]
    simp

theorem beginTraining_keepsReplay (p : Port) (cause : Cause) (carried : Rate) :
    KeepsReplay (beginTraining p cause carried) := by
  intro b h
  obtain ⟨hended, hstop⟩ := endTraffic_replayInv (p := p) h (fun _ _ => rfl) rfl
  have hbegun := ((SameReplay.refl (endTraffic p b)).onRecord p (f := fun r => r.begun cause) id).onTraining p
    fun t => { t with planTaken := false }
  exact beginAttempt_replayInv (hbegun.replayInv hended) ((hbegun p).1 ▸ hstop) _

theorem settleRetrain_keepsReplay (p : Port) : KeepsReplay (settleRetrain p) := by
  intro b h
  unfold settleRetrain
  split
  · exact (SameReplay.of_pushKeeps (answerRetrain_keeps p _ _ b)).replayInv h
  split
  · exact beginTraining_keepsReplay p _ _ _ ((SameReplay.of_ports (ports_onEngine ..)).replayInv h)
  · exact h

theorem becomeActive_same (p : Port) (b : Bridge) : SameReplay b (becomeActive p b) :=
  ((SameReplay.refl b).onPort p rfl fun _ => rfl).onPort p rfl id

theorem wakeToActive_keepsReplay (p : Port) : KeepsReplay (wakeToActive p) := fun b h =>
  settleRetrain_keepsReplay p _ ((becomeActive_same p b).replayInv h)

/-- A port enters ACTIVE with a resumption replay where its replay buffer holds frames (07 R126). -/
theorem enterActive_keepsReplay (p : Port) (w : Width) : KeepsReplay (enterActive p w) := by
  intro b h
  rw [enterActive_eq]
  refine settleRetrain_keepsReplay p _ (replayInv_of_port (p := p) h (fun q hq => port_setPort_other b _ hq) ?_)
  rw [port_setPort_self]
  exact ⟨replaySound_resumed (replayInv_iff.mp h p).sound, fun hp => absurd rfl hp⟩

theorem restartNumbers_other (p : Port) (b : Bridge) {q : Port} (hq : q ≠ p) :
    (restartNumbers p b).port q = b.port q := by
  simp [restartNumbers, hq]

/-- Where a port's numbers restart its replay buffer is empty, whatever it held (07 R128). -/
theorem restartNumbers_replayInv {b t : Bridge} {p : Port} (h : ReplayInv b)
    (hother : ∀ q, q ≠ p → t.port q = b.port q) : ReplayInv (restartNumbers p t) := by
  have hsend : ((restartNumbers p t).port p).send = SendSide.restarted := by simp [restartNumbers]
  refine replayInv_of_stopped (p := p) h (fun q hq => (restartNumbers_other p t hq).trans (hother q hq)) ?_ ?_
  · rw [hsend]
    exact replaySound_restarted
  · rw [hsend]
    rfl

theorem renumber_keepsReplay (p : Port) : KeepsReplay (renumber p) := fun _ h =>
  ((SameReplay.refl _).onRecv p _).replayInv
    (onSend_replayInv h (replaySound_renumbered (replayInv_iff.mp h p).sound) fun _ => rfl)

/-! ### Taking packets, and the offering of freed places -/

theorem takeAt_same (p : Port) (c : Cls) (i : Nat) (b : Bridge) : SameReplay b (takeAt p c i b) := by
  unfold takeAt
  dsimp only
  split
  · exact .refl b
  · next k _ =>
    split
    · exact ((SameReplay.of_pushed (carryOut_pushed (routeOf b p k) b)).setPool p c _).onAccount p c _
    · exact .refl b

theorem takeHead_same (p : Port) (c : Cls) (kinds : List Kind) (b : Bridge) : SameReplay b (takeHead p c kinds b) := by
  unfold takeHead
  split
  · exact .refl b
  split
  · exact takeAt_same p c 0 b
  · exact .refl b

theorem admitFirst_same {b b' : Bridge} {p : Port} {c : Cls} (hb : admitFirst p c b = some b') : SameReplay b b' := by
  simp only [admitFirst, Option.orElse_eq_orElse, Option.orElse_eq_or, Option.or_eq_some_iff] at hb
  rcases hb with (hrank1 | ⟨_, hrank2⟩) | ⟨_, hrank3 | ⟨_, hrank45⟩⟩
  · split at hrank1
    · obtain ⟨e, _, rfl⟩ := Option.map_eq_some_iff.mp hrank1
      exact .of_pushed (pushOwed_pushed _ e b)
    · cases hrank1
  · split at hrank2
    · cases hrank2
      exact .of_pushKeeps (admitReply_keeps p b)
    · cases hrank2
  · split at hrank3
    · obtain ⟨i, _, rfl⟩ := Option.map_eq_some_iff.mp hrank3
      exact .of_pushKeeps (admitLine_keeps i b)
    · cases hrank3
  · obtain ⟨q, _, rfl⟩ := Option.map_eq_some_iff.mp hrank45
    exact takeAt_same _ _ _ b

theorem offerPlaces_same (p : Port) (c : Cls) (n : Nat) (b : Bridge) : SameReplay b (offerPlaces p c n b) := by
  induction n generalizing b with
  | zero => exact .refl b
  | succ n ih =>
    unfold offerPlaces
    split
    · split
      · exact .refl b
      · next b' hb => exact (admitFirst_same hb).trans (ih b')
    · exact .refl b

theorem offerFreed_same (before : Bridge) (p : Port) (c : Cls) (b : Bridge) :
    SameReplay b (offerFreed before p c b) := by
  unfold offerFreed
  split
  · exact offerPlaces_same p c _ b
  · exact .refl b

theorem offerAll_same (before : Bridge) (p : Port) (b : Bridge) : SameReplay b (offerAll before p b) :=
  ((offerFreed_same before p .reply b).trans (offerFreed_same before p .stream _)).trans
    (offerFreed_same before p .query _)

theorem judge_same (w : WaitingPool) (b : Bridge) : SameReplay b (w.judge b) := by
  have hhead : SameReplay b (if w.head then takeAt w.port w.cls 0 b else b) := by
    split
    · exact takeAt_same _ _ _ b
    · exact .refl b
  unfold WaitingPool.judge
  dsimp only
  generalize (if w.head = true then takeAt w.port w.cls 0 b else b) = judged at hhead
  split
  · exact hhead
  · generalize (if (w.head && headReady b w.port w.cls) = true then _ else _) = j
    split
    · exact hhead.trans (takeAt_same _ _ _ _)
    · exact hhead

/-! ### A port going DOWN -/

theorem lossAct_same (p : Port) (a : LossAct) (b : Bridge) : SameReplay b (a.carryOut p b) := by
  cases a with
  | record r => exact .of_pushKeeps (raise_keeps r b)
  | entryLost d e => exact .of_pushed (farPortLost_pushed d e b)
  | donePushed d e => exact .of_pushed (pushOwed_pushed d e b)
  | retrainEnds => exact .of_pushKeeps (answerRetrain_keeps p _ _ b)
  | replyPushed => exact .of_pushKeeps (admitReply_keeps p b)
  | linePushed i =>
    show SameReplay b (if (b.line i).state == .pending then admitLine i b else b)
    split
    · exact .of_pushKeeps (admitLine_keeps i b)
    · exact .refl b
  | poolJudged w => exact judge_same w b

/-- A port that goes DOWN loses what its replay buffer held (08 R137, 07 R128). -/
theorem goDown_keepsReplay (p : Port) : KeepsReplay (goDown p) := by
  intro b h
  have hdown : ReplayInv (restartNumbers p (flushEgress p (b.setLinkState p .down))) :=
    restartNumbers_replayInv h fun q hq => by simp [flushEgress, hq]
  exact (SameReplay.foldl (lossAct_same p) _ _).replayInv ((SameReplay.of_ports rfl).replayInv hdown)

theorem failAttempt_replayInv {b : Bridge} {p : Port} (h : ReplayInv b)
    (hstop : (b.port p).send.replayPos = none) : ReplayInv (failAttempt p b) := by
  have hcounted := (SameReplay.refl b).onRecord p
    (f := fun r => { r with attempts := (b.port p).record.attempts + 1 }) id
  unfold failAttempt
  dsimp only
  split
  · exact beginAttempt_replayInv (hcounted.replayInv h) ((hcounted p).1 ▸ hstop) _
  · exact goDown_keepsReplay p _ (hcounted.replayInv h)

/-! ### The CONFIG exchange -/

/-- The partner's CONFIG flit renumbers the replay buffer or leaves its numbers, and the kept ACK removes from it
(07 R118, R127). -/
theorem absorbedPort_stopped {x : PortState} (h : replaySound x.send) (hstop : x.send.replayPos = none)
    (c : ConfigFlit) : replaySound (absorbedPort x c).send ∧ (absorbedPort x c).send.replayPos = none := by
  have hnumbered : replaySound (renumberedPort x c.restart).send ∧
      (renumberedPort x c.restart).send.replayPos = none := by
    unfold renumberedPort
    split
    · exact ⟨replaySound_renumbered h, rfl⟩
    · exact ⟨h, hstop⟩
  obtain ⟨hrenumbered, hended⟩ := hnumbered
  have hacked : ∀ ack, replaySound (ackTaken (renumberedPort x c.restart).send ack) ∧
      (ackTaken (renumberedPort x c.restart).send ack).replayPos = none := by
    intro ack
    cases ack with
    | none => exact ⟨hrenumbered, hended⟩
    | some n => exact replaySound_ackedAtConfig hrenumbered hended n
  exact hacked _

theorem absorbConfig_replayInv {b : Bridge} {p : Port} (h : ReplayInv b) (hstop : (b.port p).send.replayPos = none)
    (c : ConfigFlit) : ReplayInv (absorbConfig p c b) ∧ ((absorbConfig p c b).port p).send.replayPos = none := by
  obtain ⟨hsound, hended⟩ := absorbedPort_stopped (replayInv_iff.mp h p).sound hstop c
  rw [absorbConfig_eq, port_setPort_self]
  refine ⟨replayInv_of_stopped (p := p) h (fun q hq => port_setPort_other b _ hq) ?_ ?_, hended⟩
  · rwa [port_setPort_self]
  · rwa [port_setPort_self]

theorem takeConfig_replayInv {b : Bridge} {p : Port} (h : ReplayInv b) (hstop : (b.port p).send.replayPos = none)
    (c : ConfigFlit) : ReplayInv (takeConfig p c b) := by
  obtain ⟨habsorbed, hended⟩ := absorbConfig_replayInv h hstop c
  unfold takeConfig
  dsimp only
  split
  · exact failAttempt_replayInv habsorbed hended
  · exact enterActive_keepsReplay p _ _ habsorbed

theorem emitConfig_same (p : Port) (ack : Option Seq) (c : ConfigFlit) (b : Bridge) :
    SameReplay b (emitConfig p ack c b) := by
  cases ack with
  | none => exact (SameReplay.refl b).emit p _
  | some n => exact ((SameReplay.refl b).emit p _).emit p _

theorem sendConfig_same (p : Port) (b : Bridge) : SameReplay b (sendConfig p b) :=
  ((((SameReplay.refl b).onRecv p _).onPort p rfl id).onTraining p _).trans (emitConfig_same p _ _ _)

theorem enterConfig_replayInv {b : Bridge} {p : Port} (h : ReplayInv b)
    (hstop : (b.port p).send.replayPos = none) : ReplayInv (enterConfig p b) := by
  have hsame := sendConfig_same p (b.setLinkState p .config)
  have hstate : ReplayInv (b.setLinkState p .config) := by
    refine replayInv_of_stopped (p := p) h (fun q hq => port_setLinkState_other b _ hq) ?_ ?_
    · rw [port_setLinkState_self]
      exact (replayInv_iff.mp h p).sound
    · rwa [port_setLinkState_self]
  have hsent := hsame.replayInv hstate
  unfold enterConfig
  dsimp only
  split
  · exact hsent
  · refine takeConfig_replayInv hsent ?_ _
    rwa [(hsame p).1, port_setLinkState_self]

theorem takeTrain_keepsReplay (p : Port) (marker : Bool) (rate : Rate) : KeepsReplay (takeTrain p marker rate) := by
  intro b h
  have htraining := beginTraining_keepsReplay p .partnerTrain rate b h
  unfold takeTrain
  split
  · exact htraining
  · exact htraining
  · exact htraining
  · exact htraining
  · next hstate =>
    split
    · exact enterConfig_replayInv h (stopped_of_state h hstate nofun)
    · exact h
  · next hstate =>
    split
    · exact h
    · exact failAttempt_replayInv h (stopped_of_state h hstate nofun)

theorem meetConfig_keepsReplay (p : Port) (c : ConfigFlit) : KeepsReplay (meetConfig p c) := by
  intro b h
  have hsame : SameReplay b (keepConfig p c b) := (SameReplay.refl b).onTraining p _
  unfold meetConfig
  dsimp only
  split
  · next hstate =>
    split
    · refine enterConfig_replayInv (hsame.replayInv h) ?_
      rw [(hsame p).1]
      exact stopped_of_state h hstate nofun
    · exact hsame.replayInv h
  · next hstate => exact takeConfig_replayInv h (stopped_of_state h hstate nofun) c
  all_goals exact h

/-- A sweep ends in TRAINING, where no replay stands (08 R133). -/
theorem endSweep_replayInv {b : Bridge} {p : Port} (h : ReplayInv b) (hstate : b.linkState p = .training)
    (passing : Vector (BitVec 64) 16) : ReplayInv (endSweep p passing b) := by
  have hstop := stopped_of_state h hstate nofun
  have hswept := (SameReplay.refl b).onPort p (f := fun s => { s with lanes := sweptLanes s passing }) rfl id
  unfold endSweep
  dsimp only
  split
  · exact failAttempt_replayInv (hswept.replayInv h) ((hswept p).1 ▸ hstop)
  · next w _ =>
    have hmarked := (hswept.onTraining p fun t => { t with usable := some w }).emit p ⟨.flit (.train true
      ((b.onPort p fun s => { s with lanes := sweptLanes s passing }).port p).record.rate), some .w16⟩
    split
    · exact enterConfig_replayInv (hmarked.replayInv h) ((hmarked p).1 ▸ hstop)
    · exact hmarked.replayInv h

/-! ### Parking and waking -/

theorem takePark_keepsReplay (p : Port) : KeepsReplay (takePark p) := by
  intro b h
  unfold takePark
  split
  · exact (endTraffic_replayInv h (fun q hq => port_setLinkState_other b _ hq) (by rw [port_setLinkState_self])).1
  · exact ((SameReplay.refl b).emit p _).replayInv h

theorem takeWake_keepsReplay (p : Port) : KeepsReplay (takeWake p) := by
  intro b h
  unfold takeWake
  split
  · next hparked =>
    exact wakeToActive_keepsReplay p _ ((SameReplay.of_pushKeeps (startWake_keeps b p hparked)).replayInv h)
  · exact wakeToActive_keepsReplay p b h
  all_goals exact h

theorem parkPort_keepsReplay (p : Port) : KeepsReplay (parkPort p) := by
  intro b h
  refine replayInv_of_stopped (p := p) h (fun q hq => by simp [parkPort, Bridge.emitInUse, hq]) ?_ ?_
  · exact replaySound_stopped (replayInv_iff.mp h p).sound (by simp [parkPort, Bridge.emitInUse])
      (by simp [parkPort, Bridge.emitInUse]) (by simp [parkPort, Bridge.emitInUse])
  · simp [parkPort, Bridge.emitInUse]

theorem completePark_keepsReplay (p : Port) : KeepsReplay (completePark p) := by
  intro b h
  unfold completePark
  split
  · exact h
  · exact (SameReplay.of_pushKeeps (deliverWith_keeps push_keeps _ _ _)).replayInv
      (parkPort_keepsReplay p _ ((SameReplay.of_ports (ports_onEngine ..)).replayInv h))

theorem repeatConfig_same (p : Port) (b : Bridge) : SameReplay b (repeatConfig p b) := by
  unfold repeatConfig
  split
  · exact .refl b
  · exact ((SameReplay.refl b).onTraining p _).trans (emitConfig_same p _ _ _)

theorem repeatWake_same (p : Port) (b : Bridge) : SameReplay b (repeatWake p b) :=
  ((SameReplay.refl b).onTraining p _).emit p _

/-! ### Resets -/

theorem coldReset_replayInv (unitsel : UnitNo) (leafmgt : Bool) (b : Bridge) :
    ReplayInv (coldResetOf unitsel leafmgt b) := by
  refine replayInv_iff.mpr fun p => ?_
  cases p <;> exact ⟨replaySound_restarted, fun _ => rfl⟩

theorem releaseReset_keepsReplay : KeepsReplay releaseReset := by
  intro b h
  unfold releaseReset
  split
  · exact beginTraining_keepsReplay .leaf _ _ _ (beginTraining_keepsReplay .root _ _ _
      ((SameReplay.of_ports (b' := { b with rstLow := false }) rfl).replayInv h))
  · exact h

theorem leafResetTaken_keepsReplay : KeepsReplay leafResetTaken := fun b h =>
  beginTraining_keepsReplay .leaf _ _ _ (renumber_keepsReplay .leaf b h)

theorem resetPort_keepsReplay (p : Port) : KeepsReplay (resetPort p) := fun _ h =>
  ((SameReplay.refl _).onPort p rfl id).replayInv
    (restartNumbers_replayInv h fun q hq => by simp [flushEgress, hq])

theorem resetTrainings_keepsReplay (forwarding : Bool) : KeepsReplay (resetTrainings forwarding) := by
  intro b h
  have hroot := beginTraining_keepsReplay .root .reset .r3_2 b h
  unfold resetTrainings
  dsimp only
  split
  · exact beginTraining_keepsReplay .leaf _ _ _ (((SameReplay.refl _).emit .leaf _).replayInv hroot)
  · exact hroot

theorem rootResetOf_keepsReplay : KeepsReplay rootResetOf := by
  intro b h
  have hroot := resetPort_keepsReplay .root b h
  have hports : ReplayInv (portsReset b) := by
    unfold portsReset
    split
    · exact resetPort_keepsReplay .leaf _ hroot
    · exact hroot
  have hengine := PortsPushed.of_ports (ports_onEngine (portsReset b) fun e => e.atReset b.engine.resetForwarding)
  have htables := hengine.trans (resetTables_pushed b.engine.resetForwarding _)
  have htrained := resetTrainings_keepsReplay b.engine.resetForwarding _
    ((SameReplay.of_pushed htables).replayInv hports)
  refine (offerAll_same b .root _).replayInv (SameReplay.replayInv (.of_pushed ?_) htrained)
  exact (enterFlushRecords_pushed _ _).trans (resetLines_pushed b.engine.resetForwarding _)

/-! ### Packets and flits received -/

theorem takeExpected_keepsReplay (p : Port) (k : Packet) : KeepsReplay (takeExpected p k) := by
  intro b h
  unfold takeExpected
  split
  · exact beginTraining_keepsReplay p _ _ _ ((SameReplay.of_pushKeeps (raise_keeps _ b)).replayInv h)
  · exact ((((SameReplay.refl b).setPool p _ _).onAccount p _ _).onRecv p _).replayInv h

theorem judgeFrame_keepsReplay (p : Port) (f : RxFrame) : KeepsReplay (judgeFrame p f) := by
  intro b h
  unfold judgeFrame
  dsimp only
  split
  · split
    · exact takeExpected_keepsReplay p _ b h
    split
    · exact ((SameReplay.refl b).onRecv p _).replayInv h
    · exact ((SameReplay.refl b).onRecv p _).replayInv h
  · exact (((SameReplay.refl b).onRecv p _).push (raise_keeps _ _)).replayInv h

theorem meetAck_keepsReplay (p : Port) (n : Seq) : KeepsReplay (meetAck p n) := by
  intro b h
  unfold meetAck
  split
  · next hstate =>
    refine onSend_replayInv h (replaySound_acked (replayInv_iff.mp h p).sound n b.timeBase) fun hidle => ?_
    exact absurd hstate (beq_eq_false_iff_ne.mp hidle)
  · exact ((SameReplay.refl b).onTraining p _).replayInv h
  · exact ((SameReplay.refl b).onTraining p _).replayInv h
  all_goals exact h

/-- A replay begins at the oldest entry of a buffer that holds some, in ACTIVE (07 R121). -/
theorem triggerReplay_replayInv {b : Bridge} {p : Port} (h : ReplayInv b) (hactive : b.isActive p = true)
    (hsome : 0 < (b.port p).send.buffer.length) : ReplayInv (triggerReplay p b) := by
  unfold triggerReplay
  split
  · refine onSend_replayInv h (replaySound_moved (replayInv_iff.mp h p).sound rfl rfl fun i hi => ?_) fun hidle =>
      absurd hactive (Bool.eq_false_iff.mp hidle)
    cases hi
    exact hsome
  · exact beginTraining_keepsReplay p _ _ _ ((SameReplay.of_pushKeeps (raise_keeps _ b)).replayInv h)

/-- A NAK removes the entries before the one it names, which is then the oldest, or all, or ends a replay (07 R119). -/
theorem takeNak_replayInv {b : Bridge} {p : Port} (h : ReplayInv b) (hactive : b.isActive p = true) (n : Seq) :
    ReplayInv (takeNak p n b) := by
  have hsound := (replayInv_iff.mp h p).sound
  unfold takeNak
  dsimp only
  split
  · next hnames =>
    refine triggerReplay_replayInv (onSend_replayInv h (replaySound_drop hsound _ rfl rfl nofun) fun _ => rfl) ?_ ?_
    · simpa [Bridge.isActive, Bridge.linkState] using hactive
    · rw [port_onSend_self]
      dsimp only
      rw [List.length_drop]
      omega
  split
  · refine onSend_replayInv h ?_ fun _ => rfl
    exact replaySound_iff.mpr ⟨Nat.zero_le _, numbered_nil _, nofun⟩
  · exact onSend_replayInv h (replaySound_endReplay hsound _) fun hidle =>
      absurd hactive (Bool.eq_false_iff.mp hidle)

theorem replayTimerReached_some {b : Bridge} {p : Port} (h : replayTimerReached b p = true) :
    b.isActive p = true ∧ 0 < (b.port p).send.buffer.length := by
  simp only [replayTimerReached, Bool.and_eq_true, Bool.not_eq_true', List.isEmpty_eq_false_iff] at h
  obtain ⟨⟨⟨hactive, hsome⟩, -⟩, -⟩ := h
  exact ⟨hactive, List.length_pos_iff.mpr hsome⟩

/-! ### Sending -/

theorem sendCredit_same (p : Port) (b : Bridge) : SameReplay b (sendCredit p b) :=
  ((SameReplay.refl b).onPort p rfl id).emit p _

theorem sendNak_same (p : Port) (b : Bridge) : SameReplay b (sendNak p b) := ((SameReplay.refl b).emit p _).onRecv p _

theorem sendAck_same (p : Port) (b : Bridge) : SameReplay b (sendAck p b) := ((SameReplay.refl b).emit p _).onRecv p _

theorem sendAnswer_same (p : Port) (b : Bridge) : SameReplay b (sendAnswer p b) := by
  unfold sendAnswer
  split
  · exact sendNak_same p b
  split
  · exact sendAck_same p b
  · exact .refl b

theorem sendReturns_same (p : Port) (b : Bridge) : SameReplay b (sendReturns p b) := by
  unfold sendReturns
  split
  · exact sendCredit_same p b
  · exact .refl b

theorem sendDue_same (p : Port) (b : Bridge) : SameReplay b (sendDue p b) := by
  have hcounted : SameReplay b { b with freeCtr := b.freeCtr + 1 } := .of_ports rfl
  unfold sendDue
  dsimp only
  split
  · split
    · exact (hcounted.trans (sendAnswer_same p _)).trans (sendReturns_same p _)
    · exact (hcounted.trans (sendReturns_same p _)).trans (sendAnswer_same p _)
  · exact (sendAnswer_same p b).trans (sendReturns_same p _)

/-- A first transmission takes the place of a free replay entry (07 R117). -/
theorem transmit_replayInv {b : Bridge} {p : Port} (h : ReplayInv b) (hroom : (b.port p).send.buffer.length < 32)
    (c : Cls) (k : Packet) : ReplayInv (transmit p c k b) := by
  obtain ⟨hsound, hidle⟩ := replayInv_iff.mp h p
  have hsend : ((transmit p c k b).port p).send = (b.port p).send.transmits k b.timeBase := by
    simp [transmit, Bridge.emitInUse]
  have hrecord : ((transmit p c k b).port p).record = (b.port p).record := by simp [transmit, Bridge.emitInUse]
  refine replayInv_of_port (p := p) h (fun q hq => by simp [transmit, Bridge.emitInUse, hq]) ⟨?_, fun hstate => ?_⟩
  · rw [hsend]
    exact replaySound_transmits hsound hroom k b.timeBase
  · rw [hsend]
    exact hidle (hrecord ▸ hstate)

theorem sendHead_replayInv {b : Bridge} {p : Port} (h : ReplayInv b) (hroom : (b.port p).send.buffer.length < 32)
    (c : Cls) (x : Queued) (rest : List Queued) : ReplayInv (sendHead p c x rest b) := by
  have hdue := ((sendDue_same p b).onPort p
    (f := fun s => { s with egress := { s.egress with current := b.aged p c } }) rfl id).setQueue p c rest
  have hsent := transmit_replayInv (p := p) (hdue.replayInv h) (by rwa [(hdue p).1]) c x.pkt
  unfold sendHead
  dsimp only
  refine (offerFreed_same b p c _).replayInv ?_
  split
  · exact hsent
  · exact (SameReplay.of_pushed (queryTransmitted_pushed _ _)).replayInv hsent

theorem arbitrate_keepsReplay (p : Port) : KeepsReplay (arbitrate p) := by
  intro b h
  unfold arbitrate
  split
  · next hopportunity =>
    have hroom : (b.port p).send.buffer.length < 32 := by
      simp only [Bridge.sendOpportunity, Bool.and_eq_true, decide_eq_true_eq] at hopportunity
      exact hopportunity.2
    split
    · exact h
    split
    · exact h
    · exact sendHead_replayInv h hroom _ _ _
  · exact h

theorem resend_replayInv {b : Bridge} {p : Port} (h : ReplayInv b) (hactive : b.isActive p = true) :
    ReplayInv (resend p b) := by
  unfold resend
  split
  · exact h
  next i _ =>
  split
  · exact h
  · next f _ =>
    have hsent := (sendDue_same p b).emit p ⟨.packet f, ((sendDue p b).port p).record.width⟩
    have hinv := hsent.replayInv h
    refine onSend_replayInv hinv (replaySound_resent (replayInv_iff.mp hinv p).sound i _) fun hidle => ?_
    exact absurd ((hsent p).2 (beq_iff_eq.mp hactive)) (beq_eq_false_iff_ne.mp hidle)

/-! ### The Management Engine -/

/-- The effect of a command keeps the invariant. -/
def EffectKeeps (effect : Command → Bridge → Verdict) : Prop := ∀ c, KeepsReplay fun b => verdictPart (effect c b)

theorem EffectKeeps.of_same {effect : Command → Bridge → Verdict}
    (h : ∀ c b, SameReplay b (verdictPart (effect c b))) : EffectKeeps effect := fun c b => (h c b).replayInv

theorem EffectKeeps.of_noPort {effect : Command → Bridge → Verdict} (h : WritesNoPort effect) :
    EffectKeeps effect :=
  .of_same fun c b => .of_ports (h c b)

theorem settle_pushed (v : Verdict) (c : Command) : PortsPushed (verdictPart v) (v.settle c) := by
  cases v with
  | answer status data wakes b => exact .of_pushKeeps (deliverWith_keeps push_keeps _ _ b)
  | defer op b => exact .of_ports rfl

theorem judge_effectKeeps (req : Nat) {effect : Command → Bridge → Verdict} (he : EffectKeeps effect) :
    EffectKeeps (judge req effect) := by
  intro c b h
  dsimp only
  unfold judge
  split
  · exact h
  split
  · exact h
  split
  · exact h
  · exact he c b h

theorem runHead_keepsReplay (code : BitVec 6) (req : Nat) {effect : Command → Bridge → Verdict}
    (he : EffectKeeps effect) : KeepsReplay (runHead code req effect) := by
  intro b h
  unfold runHead
  split
  · exact h
  · next c _ _ =>
    split
    · exact (SameReplay.of_pushed (settle_pushed _ c)).replayInv (judge_effectKeeps req he c b h)
    · exact h

theorem runUnknown_same (b : Bridge) : SameReplay b (runUnknown b) := by
  unfold runUnknown
  split
  · exact .refl b
  · split
    · exact .of_pushed (settle_pushed (refuse .malformed b) _)
    · exact .refl b

/-! ### The commands that write a port -/

theorem writeSettings_same {c : Command} {ports : List Port} {b b' : Bridge}
    (hw : writeSettings c ports b = some b') : SameReplay b b' := by
  induction ports generalizing b with
  | nil =>
    cases hw
    exact .refl _
  | cons p ps ih =>
    unfold writeSettings at hw
    split at hw
    · cases hw
    · exact ((SameReplay.refl b).onRecord p id).trans (ih hw)

theorem linkSet_keeps : EffectKeeps linkSetEffect := by
  refine .of_same fun c b => ?_
  unfold linkSetEffect
  split
  · exact .refl b
  · next b' hb =>
    obtain ⟨ps, _, hw⟩ := Option.bind_eq_some_iff.mp hb
    exact writeSettings_same hw

theorem linkRetrain_keeps : EffectKeeps linkRetrainEffect := by
  intro c b h
  dsimp only
  unfold linkRetrainEffect
  split
  · exact h
  · next p _ =>
    have htraining := beginTraining_keepsReplay p .retrain .r3_2 b h
    unfold retrainPort
    split
    · exact h
    split
    · exact h
    split
    · exact htraining
    · exact htraining
    · exact htraining
    all_goals exact h

theorem linkPark_keeps : EffectKeeps linkParkEffect := by
  intro c b h
  dsimp only
  unfold linkParkEffect
  split
  · exact h
  · unfold parkCommand
    split
    · exact h
    split
    · exact parkPort_keepsReplay _ b h
    split
    · exact h
    · exact h

theorem linkWake_keeps : EffectKeeps linkWakeEffect := by
  refine .of_same fun c b => ?_
  unfold linkWakeEffect
  split
  · exact .refl b
  · split
    · next hparked => exact .of_pushKeeps (startWake_keeps b _ hparked)
    · exact .refl b

theorem bufferPlanSet_keeps : EffectKeeps bufferPlanSetEffect := by
  refine .of_same fun c b => ?_
  unfold bufferPlanSetEffect
  split
  · exact .refl b
  · split
    · exact .refl b
    · exact SameReplay.foldl (fun p b => (SameReplay.refl b).onPort p rfl id) _ b

theorem arbiterSet_keeps : EffectKeeps arbiterSetEffect := by
  refine .of_same fun c b => ?_
  unfold arbiterSetEffect
  split
  · exact SameReplay.foldl (fun p b => (SameReplay.refl b).onPort p rfl id) _ b
  · exact .refl b

theorem signalConfig_keeps : EffectKeeps signalConfigEffect := by
  refine .of_same fun c b => ?_
  unfold signalConfigEffect
  split
  · exact .refl b
  split
  · exact .refl b
  · dsimp only
    split
    · exact .of_pushed (setLine_notifyIfDue_pushed b _ _)
    · exact .of_pushed (setLine_cancelNotification_pushed b _ _)

theorem signalMask_keeps : EffectKeeps signalMaskEffect := by
  refine .of_same fun c b => ?_
  unfold signalMaskEffect
  split
  · exact .of_pushed (setLine_notifyIfDue_pushed b _ _)
  · exact .of_pushed (setLine_cancelNotification_pushed b _ _)
  · exact .refl b

theorem signalServiced_keeps : EffectKeeps signalServicedEffect := by
  refine .of_same fun c b => ?_
  unfold signalServicedEffect
  split
  · exact .refl b
  split
  · exact .of_pushed (setLine_notifyIfDue_pushed b _ _)
  · exact .refl b

/-! ### The step -/

section
variable {s : State}

theorem event_keepsReplay {f : Bridge → Bridge} (hf : KeepsReplay f) (h : ReplayInv s.bridge) :
    ReplayInv (s.event f).bridge := by
  unfold State.event
  rw [bridge_onBridge]
  split
  · exact h
  · exact hf _ h

theorem event_same {f : Bridge → Bridge} (hf : ∀ b, SameReplay b (f b)) (h : ReplayInv s.bridge) :
    ReplayInv (s.event f).bridge :=
  event_keepsReplay (fun b => (hf b).replayInv) h

/-- An event that acts only where its condition holds (log 1). -/
theorem event_ite_keepsReplay {cond : Bridge → Prop} [DecidablePred cond] {f : Bridge → Bridge}
    (hf : ∀ b, cond b → ReplayInv b → ReplayInv (f b)) (h : ReplayInv s.bridge) :
    ReplayInv (s.event fun b => if cond b then f b else b).bridge := by
  refine event_keepsReplay (fun b hb => ?_) h
  split
  · next hc => exact hf b hc hb
  · exact hb

/-- An event that leaves the send sides, where it acts. -/
theorem event_ite_same {cond : Bridge → Prop} [DecidablePred cond] {f : Bridge → Bridge}
    (hf : ∀ b, SameReplay b (f b)) (h : ReplayInv s.bridge) :
    ReplayInv (s.event fun b => if cond b then f b else b).bridge :=
  event_ite_keepsReplay (fun b _ => (hf b).replayInv) h

theorem runHead_event {code : BitVec 6} {req : Nat} {effect : Command → Bridge → Verdict} (he : EffectKeeps effect)
    (h : ReplayInv s.bridge) : ReplayInv (s.event (runHead code req effect)).bridge :=
  event_keepsReplay (runHead_keepsReplay code req he) h

/-- The head of a command whose effect writes no port. -/
theorem runHead_event_noPort {code : BitVec 6} {req : Nat} {effect : Command → Bridge → Verdict}
    (he : WritesNoPort effect) (h : ReplayInv s.bridge) :
    ReplayInv (s.event (runHead code req effect)).bridge :=
  runHead_event (.of_noPort he) h

end

/-- The row of a command acts on the part, or leaves it, and keeps the replay buffers sound. -/
theorem exec_keepsReplay (i : Instr) (s : State) (h : ReplayInv s.bridge) :
    ∃ t, exec i s = .next t ∧ ReplayInv t.bridge := by
  cases i with
  | coldReset unitsel leafmgt => exact ⟨_, rfl, coldReset_replayInv unitsel leafmgt s.bridge⟩
  | rstNRelease => exact ⟨_, rfl, releaseReset_keepsReplay s.bridge h⟩
  | rootReset f => exact ⟨_, rfl, event_ite_keepsReplay (fun b _ => rootResetOf_keepsReplay b) h⟩
  | resetFlitAtLeaf f => exact ⟨_, rfl, event_ite_keepsReplay (fun b _ => leafResetTaken_keepsReplay b) h⟩
  | packetReceived p f => exact ⟨_, rfl, event_ite_keepsReplay (fun b _ => judgeFrame_keepsReplay p f b) h⟩
  | partnerTrainDetected p f =>
    refine ⟨_, rfl, event_keepsReplay (fun b hb => ?_) h⟩
    split
    · exact takeTrain_keepsReplay p _ _ b hb
    · exact hb
  | configReceived p f =>
    refine ⟨_, rfl, event_keepsReplay (fun b hb => ?_) h⟩
    split
    · exact meetConfig_keepsReplay p _ b hb
    · exact hb
  | ackReceived p f =>
    refine ⟨_, rfl, event_keepsReplay (fun b hb => ?_) h⟩
    split
    · exact meetAck_keepsReplay p _ b hb
    · exact hb
  | nakReceived p f =>
    refine ⟨_, rfl, event_keepsReplay (fun b hb => ?_) h⟩
    split
    · split
      · next hactive => exact takeNak_replayInv hb hactive _
      · exact hb
    · exact hb
  | creditReceived p f =>
    refine ⟨_, rfl, event_keepsReplay (fun b hb => ?_) h⟩
    split
    · split
      · exact ((SameReplay.refl b).onPort p rfl id).replayInv hb
      · exact hb
    · exact hb
  | parkReceived p f => exact ⟨_, rfl, event_ite_keepsReplay (fun b _ => takePark_keepsReplay p b) h⟩
  | wakeReceived p f => exact ⟨_, rfl, event_ite_keepsReplay (fun b _ => takeWake_keepsReplay p b) h⟩
  | idleReceived p f => exact ⟨_, rfl, h⟩
  | sweepEnds p passing =>
    exact ⟨_, rfl, event_ite_keepsReplay (fun _ hc hb => endSweep_replayInv hb hc.1 passing) h⟩
  | attemptBoundPasses p =>
    refine ⟨_, rfl, event_ite_keepsReplay (fun b hc hb => failAttempt_replayInv hb ?_) h⟩
    obtain ⟨hstate | hstate, -⟩ := hc
    · exact stopped_of_state hb hstate nofun
    · exact stopped_of_state hb hstate nofun
  | wakeBoundPasses p => exact ⟨_, rfl, event_ite_keepsReplay (fun b _ => beginTraining_keepsReplay p _ _ b) h⟩
  | parkDrainBoundPasses p => exact ⟨_, rfl, event_ite_same (fun b => .of_pushKeeps (failDrain_keeps p b)) h⟩
  | parkDrainCompletes p => exact ⟨_, rfl, event_ite_keepsReplay (fun b _ => completePark_keepsReplay p b) h⟩
  | replayTimerExpires p =>
    refine ⟨_, rfl, event_ite_keepsReplay (fun b hc hb => ?_) h⟩
    obtain ⟨hactive, hsome⟩ := replayTimerReached_some hc
    exact triggerReplay_replayInv hb hactive hsome
  | ackBoundPasses p => exact ⟨_, rfl, event_ite_same (fun b => (SameReplay.refl b).onRecv p _) h⟩
  | creditRepeatDue p => exact ⟨_, rfl, event_ite_same (sendCredit_same p) h⟩
  | configRepeat p => exact ⟨_, rfl, event_ite_same (repeatConfig_same p) h⟩
  | wakeRepeat p => exact ⟨_, rfl, event_ite_same (repeatWake_same p) h⟩
  | arbiterDecision p => exact ⟨_, rfl, event_keepsReplay (arbitrate_keepsReplay p) h⟩
  | replayResend p => exact ⟨_, rfl, event_ite_keepsReplay (fun _ hc hb => resend_replayInv hb hc) h⟩
  | ackSent p => exact ⟨_, rfl, event_ite_same (sendAck_same p) h⟩
  | nakSent p => exact ⟨_, rfl, event_ite_same (sendNak_same p) h⟩
  | creditFlitSent p => exact ⟨_, rfl, event_ite_same (sendCredit_same p) h⟩
  | takePut p => exact ⟨_, rfl, event_same (takeHead_same p .stream _) h⟩
  | takeGetSet p => exact ⟨_, rfl, event_same (takeHead_same p .query _) h⟩
  | takeManage p => exact ⟨_, rfl, event_same (takeHead_same p .query _) h⟩
  | managementBypass p =>
    refine ⟨_, rfl, event_same (fun b => ?_) h⟩
    split
    · exact .refl b
    · exact takeAt_same p .query _ b
  | takeSignal => exact ⟨_, rfl, event_same (takeHead_same .leaf .stream _) h⟩
  | takeReply p => exact ⟨_, rfl, event_same (takeHead_same p .reply _) h⟩
  | takeMalformed p c =>
    refine ⟨_, rfl, event_same (fun b => ?_) h⟩
    split
    · exact .refl b
    split
    · exact takeAt_same p c 0 b
    · exact .refl b
  | deadlinePasses d e => exact ⟨_, rfl, event_ite_same (fun b => .of_pushed (passDeadline_pushed d e b)) h⟩
  | quarantineEndPasses d e => exact ⟨_, rfl, event_ite_same (fun b => .of_pushed (passQuarantine_pushed d e b)) h⟩
  | returningDonePushed d e => exact ⟨_, rfl, event_ite_same (fun b => .of_pushed (pushOwed_pushed d e b)) h⟩
  | notificationAdmitted =>
    refine ⟨_, rfl, event_same (fun b => ?_) h⟩
    split
    · exact .refl b
    split
    · exact .of_pushKeeps (admitLine_keeps _ b)
    · exact .refl b
  | managementReplyAdmitted p => exact ⟨_, rfl, event_ite_same (fun b => .of_pushKeeps (admitReply_keeps p b)) h⟩
  | unknownCommand => exact ⟨_, rfl, event_same runUnknown_same h⟩
  | identify => exact ⟨_, rfl, runHead_event_noPort (effect := identifyEffect) (fun _ _ => rfl) h⟩
  | accessSet => exact ⟨_, rfl, runHead_event_noPort accessSet_noPort h⟩
  | portStatus => exact ⟨_, rfl, runHead_event_noPort portStatus_noPort h⟩
  | linkSet => exact ⟨_, rfl, runHead_event linkSet_keeps h⟩
  | linkRetrain => exact ⟨_, rfl, runHead_event linkRetrain_keeps h⟩
  | linkPark => exact ⟨_, rfl, runHead_event linkPark_keeps h⟩
  | linkWake => exact ⟨_, rfl, runHead_event linkWake_keeps h⟩
  | laneRead => exact ⟨_, rfl, runHead_event_noPort laneRead_noPort h⟩
  | bufferPlanSet => exact ⟨_, rfl, runHead_event bufferPlanSet_keeps h⟩
  | arbiterSet => exact ⟨_, rfl, runHead_event arbiterSet_keeps h⟩
  | windowLoad => exact ⟨_, rfl, runHead_event_noPort windowLoad_noPort h⟩
  | windowActivate => exact ⟨_, rfl, runHead_event_noPort windowActivate_noPort h⟩
  | windowRetire => exact ⟨_, rfl, runHead_event_noPort windowRetire_noPort h⟩
  | windowDiscard => exact ⟨_, rfl, runHead_event_noPort windowDiscard_noPort h⟩
  | windowRead => exact ⟨_, rfl, runHead_event_noPort windowRead_noPort h⟩
  | groupSet => exact ⟨_, rfl, runHead_event_noPort groupSet_noPort h⟩
  | groupRead => exact ⟨_, rfl, runHead_event_noPort groupRead_noPort h⟩
  | missPolicySet => exact ⟨_, rfl, runHead_event_noPort missPolicySet_noPort h⟩
  | timerSet => exact ⟨_, rfl, runHead_event_noPort timerSet_noPort h⟩
  | queryRead => exact ⟨_, rfl, runHead_event_noPort queryRead_noPort h⟩
  | querySummary => exact ⟨_, rfl, runHead_event_noPort (effect := querySummaryEffect) (fun _ _ => rfl) h⟩
  | signalConfig => exact ⟨_, rfl, runHead_event signalConfig_keeps h⟩
  | signalMask => exact ⟨_, rfl, runHead_event signalMask_keeps h⟩
  | signalServiced => exact ⟨_, rfl, runHead_event signalServiced_keeps h⟩
  | signalRead => exact ⟨_, rfl, runHead_event_noPort signalRead_noPort h⟩
  | captureRead => exact ⟨_, rfl, runHead_event_noPort captureRead_noPort h⟩
  | captureClear => exact ⟨_, rfl, runHead_event_noPort captureClear_noPort h⟩

/-- Settles O56: a step is one µs of the time base, or the front command's row. -/
theorem stepKeepsReplay : Obligations.StepKeepsReplay := by
  unfold Obligations.StepKeepsReplay
  intro s t h hstep
  unfold step at hstep
  split at hstep
  · cases hstep
    exact (SameReplay.of_pushed (tick_pushed s.bridge)).replayInv h
  · next c rest _ =>
    obtain ⟨u, hexec, hu⟩ := exec_keepsReplay c { s with pending := rest } h
    rw [hexec] at hstep
    cases hstep
    exact hu

end Sys2Proof.ReplayBuffers
end

section
/-! Framed packets received (O8): the judgement of 07 R123, branch by branch. -/

namespace Sys2Proof.ReceivedFrames

open Sys2Proof.Machine Sys2Proof.Safety Sys2Proof.Laws
open Sys2Proof.QueryTables (event_of_due event_of_not_due)

/-! ### What a judged frame does to its port -/

/-- A NAK becomes due where none is outstanding (07 R124). -/
theorem onRecv_wantNak (p : Port) (b : Bridge) : b.onRecv p RecvSide.wantNak =
    if (b.port p).recv.nakOutstanding then b else b.onRecv p fun r => { r with nakDue := true } := by
  rw [Bridge.onRecv, Bridge.onPort, RecvSide.wantNak]
  split
  · exact setPort_port b p
  · rfl

/-- A delivery: the packet enters the pool of its class, its cost moves from outstanding to occupied, and the receive
side expects the next number (06 R105, 07 R123, R125). -/
theorem deliverPacket_eq (p : Port) (k : Packet) (b : Bridge) : deliverPacket p k b =
    b.setPort p { b.port p with
      ingress := { (b.port p).ingress with
        pools := (b.port p).ingress.pools.set k.cls (b.pool p k.cls ++ [k]),
        account := (b.port p).ingress.account.set k.cls ((b.account p k.cls).take k.cost) },
      recv := (b.port p).recv.delivers b.timeBase } := by
  simp [deliverPacket, Bridge.setPool, Bridge.onAccount, Bridge.onRecv, Bridge.onPort, Bridge.account]

section
variable {p : Port} {f : RxFrame} {b : Bridge}

theorem judgeFrame_damaged (hbad : goodFrame f = false) : judgeFrame p f b =
    raise (bareRecord .checkFail p b.timeBase) (b.onRecv p RecvSide.wantNak) := by
  simp [judgeFrame, hbad]

theorem judgeFrame_expected (hgood : goodFrame f = true) (hdistance : (f.seq - (b.port p).recv.expected).toNat = 0) :
    judgeFrame p f b = takeExpected p (framePacket f) b := by
  simp only [judgeFrame, hgood, if_true, hdistance]

theorem judgeFrame_ahead (hgood : goodFrame f = true) (hahead : 1 ≤ (f.seq - (b.port p).recv.expected).toNat)
    (hnear : (f.seq - (b.port p).recv.expected).toNat < 2048) :
    judgeFrame p f b = b.onRecv p RecvSide.wantNak := by
  simp only [judgeFrame, hgood, if_true, if_neg (Nat.ne_of_gt hahead), if_pos hnear]

theorem judgeFrame_older (hgood : goodFrame f = true) (holder : 2048 ≤ (f.seq - (b.port p).recv.expected).toNat) :
    judgeFrame p f b = b.onRecv p fun r => { r with ackDue := r.ackDue || r.delivered } := by
  have hnonzero : (f.seq - (b.port p).recv.expected).toNat ≠ 0 := by omega
  simp only [judgeFrame, hgood, if_true, if_neg hnonzero, if_neg (Nat.not_lt.mpr holder)]

end

theorem exec_packetReceived {p : Port} {f : RxFrame} {s : State} {b : Bridge} (hrun : running s)
    (hactive : s.bridge.isActive p = true) (hjudged : judgeFrame p f s.bridge = b) :
    exec (.packetReceived p f) s = .next { s with bridge := b } :=
  hjudged ▸ congrArg _ (event_of_due hrun hactive)

/-- Settles O8: by the port state, the check value, and the distance. -/
theorem framesAreJudged : Obligations.FramesAreJudged := by
  unfold Obligations.FramesAreJudged
  intro p f s hrun b r d k nak
  have hnak : b.onRecv p RecvSide.wantNak = nak := onRecv_wantNak p b
  refine ⟨fun hidle => ?_, fun hactive hbad => ?_, fun hactive hgood hexpected hfits => ?_,
    fun hactive hgood hahead hnear => ?_, fun hactive hgood holder => ?_⟩
  · exact congrArg _ (event_of_not_due hrun (Bool.eq_false_iff.mp hidle))
  · exact exec_packetReceived hrun hactive (by rw [judgeFrame_damaged hbad, hnak])
  · refine exec_packetReceived hrun hactive ?_
    rw [judgeFrame_expected hgood hexpected, takeExpected, if_neg (Bool.eq_false_iff.mp hfits), deliverPacket_eq]
    rfl
  · exact exec_packetReceived hrun hactive ((judgeFrame_ahead hgood hahead hnear).trans hnak)
  · exact exec_packetReceived hrun hactive (judgeFrame_older hgood holder)

end Sys2Proof.ReceivedFrames
end

section
/-! ACK, NAK and the replay timer (O14, O15, O22): what each removes from the replay buffer, and the replay or the
training a trigger begins. -/

namespace Sys2Proof.ReplayTriggers

open Sys2Proof.Machine Sys2Proof.Safety Sys2Proof.Laws
open Sys2Proof.QueryTables (event_of_due event_of_not_due)
open Sys2Proof.CreditAccounts (beginTraining_training)
open Sys2Proof.CreditOverrun (raise_adds beginTraining_capture)
open Sys2Proof.PushedPackets (enterRecord_cases)

theorem onSend_unchanged {b : Bridge} {p : Port} {f : SendSide → SendSide} (h : f (b.port p).send = (b.port p).send) :
    b.onSend p f = b := by
  rw [Bridge.onSend, Bridge.onPort, h, setPort_port]

/-! ### An ACK (07 R118) -/

section
variable {x : SendSide} {n : Seq}

theorem ackCount_of_oldest {o : Framed} {rest : List Framed} (hbuffer : x.buffer = o :: rest) :
    x.ackCount n = if (n - o.seq).toNat < x.buffer.length then (n - o.seq).toNat + 1 else 0 := by
  simp only [SendSide.ackCount, hbuffer]

/-- An ACK that names no entry changes nothing. -/
theorem acked_unnamed (h : x.ackCount n = 0) (now : Time) : x.acked n now = x := if_pos h

/-- An ACK that names an entry removes all up to it (07 R118, R121). -/
theorem acked_named {m : Nat} (h : x.ackCount n = m + 1) (now : Time) : x.acked n now =
    { x with
      buffer := x.buffer.drop (m + 1), replayCount := 0,
      timerStart := if x.buffer.drop (m + 1) = [] then none else if x.replayPos = none then some now else x.timerStart,
      replayPos := if x.buffer.drop (m + 1) = [] then none else x.replayPos.map fun i => i - (m + 1) } := by
  simp only [SendSide.acked, h, Nat.succ_ne_zero, if_false, List.isEmpty_iff, Option.isNone_iff_eq_none]

end

theorem exec_ackReceived {p : Port} {f : RawFlit} {n : Seq} {s : State} {b : Bridge} (hrun : running s)
    (hf : readFlit f = some (.ack n)) (hmet : meetAck p n s.bridge = b) :
    exec (.ackReceived p f) s = .next { s with bridge := b } := by
  show Host.Outcome.next (s.event _) = _
  rw [event_high s _ hrun, State.onBridge, hf, ← hmet]

/-- Settles O14: by the port state, and in ACTIVE by what the ACK names. -/
theorem ackRemovesEntries : Obligations.AckRemovesEntries := by
  unfold Obligations.AckRemovesEntries
  intro p f n s hrun hf b q x
  have hactive (hstate : b.linkState p = .active) : meetAck p n b = b.onSend p (·.acked n b.timeBase) := by
    simp only [meetAck, hstate]
  refine ⟨?_, fun hstate hempty => ?_, fun hstate hnone => ?_, fun hstate => ?_⟩
  · intro o rest hstate hbuffer d left
    refine ⟨fun hbeyond => ?_, fun hnames => ?_⟩
    · have hcount : x.ackCount n = 0 := (ackCount_of_oldest hbuffer).trans (if_neg (Nat.not_lt.mpr hbeyond))
      exact exec_ackReceived hrun hf ((hactive hstate).trans (onSend_unchanged (acked_unnamed hcount _)))
    · have hcount : x.ackCount n = d + 1 := (ackCount_of_oldest hbuffer).trans (if_pos hnames)
      refine exec_ackReceived hrun hf ((hactive hstate).trans ?_)
      rw [Bridge.onSend, Bridge.onPort, acked_named hcount]
  · have hcount : x.ackCount n = 0 := by simp only [SendSide.ackCount, hempty]
    exact exec_ackReceived hrun hf ((hactive hstate).trans (onSend_unchanged (acked_unnamed hcount _)))
  · have hkept : meetAck p n b = b.onTraining p fun t =>
        if t.keptConfig.isSome then t else { t with keptAck := some n } := by
      rcases hstate with hstate | hstate <;> simp only [meetAck, hstate]
    refine exec_ackReceived hrun hf (hkept.trans ?_)
    have hfree : ¬(b.port p).training.keptConfig.isSome = true := by
      rw [show (b.port p).training.keptConfig = none from hnone]
      exact Bool.false_ne_true
    rw [Bridge.onTraining, Bridge.onPort, if_neg hfree]
  · have hdiscarded : meetAck p n b = b := by
      rcases hstate with hstate | hstate | hstate <;> simp only [meetAck, hstate]
    exact exec_ackReceived hrun hf hdiscarded

/-! ### A trigger (07 R121, R122) -/

/-- Below the limit a trigger begins a replay from the oldest entry (07 R121). -/
theorem triggerReplay_begins {p : Port} {b : Bridge} (hcount : (b.port p).send.replayCount < 4) :
    triggerReplay p b = b.onSend p fun s =>
      { s with replayCount := s.replayCount + 1, replayPos := some 0, timerStart := none } :=
  if_pos hcount

/-- What a trigger at the limit leaves: the port trains with its replay buffer kept, and the record has entered where
the queue had a place (07 R122). -/
structure ReplayLimited (p : Port) (b t : Bridge) : Prop where
  state : t.linkState p = .training
  cause : (t.port p).record.cause = .replayLimit
  buffer : (t.port p).send.buffer = (b.port p).send.buffer
  nextSeq : (t.port p).send.nextSeq = (b.port p).send.nextSeq
  tables : t.tables = b.tables
  record : b.capture.length < 16 → bareRecord .replayLimit p b.timeBase ∈ t.capture

/-- A record raised as a training begins is held where the queue had a place (11 R179). -/
theorem mem_capture_of_training {r : Record} {b : Bridge} (hroom : b.capture.length < 16) (p : Port) (cause : Cause)
    (carried : Rate) : r ∈ (beginTraining p cause carried (raise r b)).capture := by
  have hkept := (raise_adds r b).capture.trans (beginTraining_capture p cause carried (raise r b)).1
  refine hkept.subset ?_
  rcases enterRecord_cases b r with ⟨hentered, -⟩ | ⟨hfull, -⟩
  · rw [hentered]
    exact List.mem_append_right _ (List.mem_singleton_self _)
  · omega

theorem triggerReplay_limited {p : Port} {b : Bridge} (hcount : 4 ≤ (b.port p).send.replayCount) :
    ReplayLimited p b (triggerReplay p b) := by
  have htrained : triggerReplay p b =
      beginTraining p .replayLimit .r3_2 (raise (bareRecord .replayLimit p b.timeBase) b) :=
    if_neg (Nat.not_lt.mpr hcount)
  have hraised := raise_keeps (bareRecord .replayLimit p b.timeBase) b
  have hbegun := beginTraining_begun p .replayLimit .r3_2 (raise (bareRecord .replayLimit p b.timeBase) b)
  have hsend := hbegun.send
  rw [hraised.send p] at hsend
  rw [htrained]
  exact
    { state := beginTraining_training ..
      cause := by rw [hbegun.record]
      buffer := by rw [hsend]
      nextSeq := by rw [hsend]
      tables := hbegun.tables.trans hraised.tables
      record := fun hroom => mem_capture_of_training hroom p _ _ }

/-! ### A NAK (07 R119) -/

section
variable {p : Port} {n : Seq} {b : Bridge} {d : Nat} (hd : (b.port p).send.nakDistance n = d)
include hd

/-- A NAK that names an entry removes those before it and triggers a replay. -/
theorem takeNak_names (hnames : d < (b.port p).send.buffer.length) : takeNak p n b =
    triggerReplay p (b.onSend p fun s => { s with buffer := s.buffer.drop d, replayPos := none }) := by
  subst hd
  exact if_pos hnames

/-- A NAK one past the newest entry removes all. -/
theorem takeNak_all (hall : d = (b.port p).send.buffer.length) : takeNak p n b =
    b.onSend p fun s => { s with buffer := [], replayPos := none, timerStart := none } := by
  subst hd
  exact (if_neg (Nat.not_lt.mpr (Nat.le_of_eq hall.symm))).trans (if_pos hall)

/-- A NAK that names nothing ends a replay in progress (log 16). -/
theorem takeNak_none (hbeyond : (b.port p).send.buffer.length < d) :
    takeNak p n b = b.onSend p (·.endReplay b.timeBase) := by
  subst hd
  exact (if_neg (Nat.not_lt.mpr (Nat.le_of_lt hbeyond))).trans (if_neg (Nat.ne_of_gt hbeyond))

end

theorem nakDistance_of_oldest {x : SendSide} {o : Framed} {rest : List Framed} (hbuffer : x.buffer = o :: rest)
    (n : Seq) : x.nakDistance n = (n - o.seq).toNat := by
  simp only [SendSide.nakDistance, hbuffer]

/-- With no replay in progress there is none to end. -/
theorem endReplay_of_none {x : SendSide} (h : x.replayPos = none) (now : Time) : x.endReplay now = x := by
  simp [SendSide.endReplay, h]

theorem endReplay_of_some {x : SendSide} (h : x.replayPos ≠ none) (hsome : x.buffer ≠ []) (now : Time) :
    x.endReplay now = { x with replayPos := none, timerStart := some now } := by
  have hreplays : x.replayPos.isSome = true := Option.isSome_iff_ne_none.mpr h
  simp [SendSide.endReplay, hreplays, hsome]

theorem cleared_of_empty {x : SendSide} (hempty : x.buffer = []) (hidle : x.replayPos = none)
    (htimer : x.timerStart = none) : { x with buffer := [], replayPos := none, timerStart := none } = x := by
  rw [← htimer, ← hempty, ← hidle]

/-- A NAK with nothing to resend changes nothing (07 R119). -/
theorem takeNak_empty {p : Port} {b : Bridge} (hempty : (b.port p).send.buffer = [])
    (hidle : (b.port p).send.replayPos = none) (htimer : (b.port p).send.timerStart = none) (n : Seq) :
    takeNak p n b = b := by
  by_cases hnext : (b.port p).send.nakDistance n = 0
  · exact (takeNak_all hnext (by rw [hempty, List.length_nil])).trans
      (onSend_unchanged (cleared_of_empty hempty hidle htimer))
  · refine (takeNak_none rfl ?_).trans (onSend_unchanged (endReplay_of_none hidle _))
    rw [hempty, List.length_nil]
    exact Nat.pos_of_ne_zero hnext

theorem exec_nakReceived {p : Port} {f : RawFlit} {n : Seq} {s : State} {b : Bridge} (hrun : running s)
    (hf : readFlit f = some (.nak n)) (hactive : s.bridge.isActive p = true) (htaken : takeNak p n s.bridge = b) :
    exec (.nakReceived p f) s = .next { s with bridge := b } := by
  show Host.Outcome.next (s.event _) = _
  rw [event_high s _ hrun, State.onBridge, hf, ← htaken]
  exact congrArg (fun t => Host.Outcome.next { s with bridge := t }) (if_pos hactive)

theorem exec_nakReceived_idle {p : Port} {f : RawFlit} {n : Seq} {s : State} (hrun : running s)
    (hf : readFlit f = some (.nak n)) (hidle : s.bridge.isActive p = false) :
    exec (.nakReceived p f) s = .next s := by
  show Host.Outcome.next (s.event _) = _
  rw [event_high s _ hrun, State.onBridge, hf]
  exact congrArg (fun t => Host.Outcome.next { s with bridge := t }) (if_neg (Bool.eq_false_iff.mp hidle))

/-- Settles O15: by the port state, and in ACTIVE by the distance. -/
theorem nakTriggersReplay : Obligations.NakTriggersReplay := by
  unfold Obligations.NakTriggersReplay
  intro p f n s hrun hf b x
  refine ⟨exec_nakReceived_idle hrun hf, fun hactive hempty hidle htimer => ?_, ?_⟩
  · exact exec_nakReceived hrun hf hactive (takeNak_empty hempty hidle htimer n)
  intro o rest hactive hbuffer d
  have hd : x.nakDistance n = d := nakDistance_of_oldest hbuffer n
  have hsome : x.buffer ≠ [] := hbuffer ▸ List.cons_ne_nil o rest
  refine ⟨fun hnames hcount => ?_, fun hnames hcount => ?_, fun hall => ?_, fun hbeyond hidle => ?_,
    fun hbeyond hreplays => ?_⟩
  · refine exec_nakReceived hrun hf hactive ((takeNak_names hd hnames).trans ?_)
    rw [triggerReplay_begins (by rwa [port_onSend_self])]
    simp [Bridge.onSend, Bridge.onPort, x]
  · have hlimited := triggerReplay_limited (p := p)
      (b := b.onSend p fun s => { s with buffer := s.buffer.drop d, replayPos := none }) (by rwa [port_onSend_self])
    exact ⟨_, exec_nakReceived hrun hf hactive (takeNak_names hd hnames), hlimited.state, hlimited.cause,
      hlimited.buffer.trans (by rw [port_onSend_self]), hlimited.record⟩
  · exact exec_nakReceived hrun hf hactive (takeNak_all hd hall)
  · exact exec_nakReceived hrun hf hactive
      ((takeNak_none hd hbeyond).trans (onSend_unchanged (endReplay_of_none hidle _)))
  · refine exec_nakReceived hrun hf hactive ((takeNak_none hd hbeyond).trans ?_)
    rw [Bridge.onSend, Bridge.onPort, endReplay_of_some hreplays hsome]

/-! ### The replay timer (07 R120) -/

/-- The timer of an ACTIVE port runs where the buffer holds entries and no replay is in progress. -/
theorem replayTimerReached_of_running {b : Bridge} {p : Port} {start : Time} (hactive : b.isActive p = true)
    (hsome : (b.port p).send.buffer ≠ []) (hidle : (b.port p).send.replayPos = none)
    (hstart : (b.port p).send.timerStart = some start) :
    replayTimerReached b p = reached b.timeBase (after start (b.port p).record.inForce.replayTimeout) := by
  simp [replayTimerReached, hactive, hsome, hidle, hstart]

/-- Settles O22: before the timeout nothing happens; at it the replay count decides. -/
theorem replayTimerExpiry : Obligations.ReplayTimerExpiry := by
  unfold Obligations.ReplayTimerExpiry
  intro p start s hrun b x hactive hsome hidle hstart due
  have hreached : replayTimerReached b p = due := replayTimerReached_of_running hactive hsome hidle hstart
  have hexec (hdue : due = true) : exec (.replayTimerExpires p) s = .next { s with bridge := triggerReplay p b } :=
    congrArg _ (event_of_due hrun (hreached.trans hdue))
  refine ⟨fun hbefore => ?_, fun hdue hcount => ?_, fun hdue hcount => ?_⟩
  · exact congrArg _ (event_of_not_due hrun (Bool.eq_false_iff.mp (hreached.trans hbefore)))
  · rw [hexec hdue, triggerReplay_begins hcount]
    rfl
  · have hlimited := triggerReplay_limited hcount
    exact ⟨_, hexec hdue, hlimited.state, hlimited.cause, hlimited.buffer, hlimited.nextSeq, hlimited.tables,
      hlimited.record⟩

end Sys2Proof.ReplayTriggers
end

section
/-! Due flits and replayed frames (O28, O27): what an ACK, a NAK and a CREDIT flit sent do to their port, in which order
the due ones go ahead of a packet, and the frame a replay resends after them. -/

namespace Sys2Proof.DueFlits

open Sys2Proof.Machine Sys2Proof.Safety Sys2Proof.Laws
open Sys2Proof.QueryTables (event_of_due event_of_not_due)
open Sys2Proof.CreditFlits (sendCredit_eq perClass_get_map)
open Sys2Proof.ReplayBuffers (sendDue_same)

/-! ### One flit -/

theorem sendNak_eq (p : Port) (b : Bridge) : sendNak p b = b.setPort p { b.port p with
    out := (b.port p).out ++ [⟨.flit (.nak (b.port p).recv.expected), (b.port p).record.width⟩],
    recv := { (b.port p).recv with
      nakOutstanding := true, unacked := 0, ackBound := none, nakDue := false, ackDue := false } } := by
  simp [sendNak, Bridge.emitInUse, Bridge.emit, Bridge.onRecv, Bridge.onPort]

theorem sendAck_eq (p : Port) (b : Bridge) : sendAck p b = b.setPort p { b.port p with
    out := (b.port p).out ++ [⟨.flit (.ack ((b.port p).recv.expected - 1)), (b.port p).record.width⟩],
    recv := { (b.port p).recv with unacked := 0, ackBound := none, ackDue := false } } := by
  simp [sendAck, Bridge.emitInUse, Bridge.emit, Bridge.onRecv, Bridge.onPort]

/-- Freed credit is due when a class has freed headers or blocks (06 R107). -/
theorem creditDue_iff (b : Bridge) (p : Port) : b.creditDue p = true ↔
    ∃ c, 0 < (b.account p c).freed.headers ∨ 0 < (b.account p c).freed.blocks := by
  have howes (c : Cls) : (b.account p c).owes = true ↔
      0 < (b.account p c).freed.headers ∨ 0 < (b.account p c).freed.blocks := by
    simp only [RxAccount.owes, Bool.or_eq_true, decide_eq_true_eq]
  simp only [← howes, Bridge.creditDue, Bool.or_eq_true]
  constructor
  · rintro ((hstream | hquery) | hreply)
    · exact ⟨.stream, hstream⟩
    · exact ⟨.query, hquery⟩
    · exact ⟨.reply, hreply⟩
  · rintro ⟨c, hc⟩
    cases c with
    | stream => exact .inl (.inl hc)
    | query => exact .inl (.inr hc)
    | reply => exact .inr hc

section
variable {p : Port} {s : State} (hrun : running s) (hactive : s.bridge.isActive p = true)
include hrun hactive

theorem exec_ackBoundPasses {bound : Time} (hbound : (s.bridge.port p).recv.ackBound = some bound)
    (hpassed : reached s.bridge.timeBase bound = true) : exec (.ackBoundPasses p) s =
      .next { s with bridge := s.bridge.onRecv p fun r => { r with ackDue := true } } := by
  have hreached : ackBoundReached s.bridge p = true := by
    simp only [ackBoundReached, hactive, hbound, hpassed, Bool.and_self]
  exact congrArg _ (event_of_due hrun hreached)

theorem exec_ackSent (hdue : (s.bridge.port p).recv.ackDue = true) :
    exec (.ackSent p) s = .next { s with bridge := sendAck p s.bridge } :=
  congrArg _ (event_of_due hrun ⟨hactive, hdue⟩)

theorem exec_nakSent (hdue : (s.bridge.port p).recv.nakDue = true) :
    exec (.nakSent p) s = .next { s with bridge := sendNak p s.bridge } :=
  congrArg _ (event_of_due hrun ⟨hactive, hdue⟩)

theorem exec_creditFlitSent (hdue : s.bridge.creditDue p = true) :
    exec (.creditFlitSent p) s = .next { s with bridge := sendCredit p s.bridge } :=
  congrArg _ (event_of_due hrun ⟨hactive, hdue⟩)

end

/-- Settles O28: each row by what it sends. -/
theorem dueFlitsAreSent : Obligations.DueFlitsAreSent := by
  unfold Obligations.DueFlitsAreSent
  refine ⟨creditDue_iff, fun p s hrun => ?_⟩
  intro b x hactive
  refine ⟨fun bound hbound hpassed => exec_ackBoundPasses hrun hactive hbound hpassed, fun hdue => ?_, fun hdue => ?_,
    fun hdue => ⟨x.ingress.account.map RxAccount.advertise, ?_, fun c => ?_⟩⟩
  · rw [exec_ackSent hrun hactive hdue, sendAck_eq]
  · rw [exec_nakSent hrun hactive hdue, sendNak_eq]
  · rw [exec_creditFlitSent hrun hactive hdue, sendCredit_eq]
  · rw [perClass_get_map]
    rfl

/-! ### All that is due -/

/-- The port after its due NAK or ACK, where one is due: the NAK alone where both are (07 R124; log 11). -/
def answeredPort (x : PortState) : PortState :=
  if x.recv.nakDue then
    { x with
      out := x.out ++ [⟨.flit (.nak x.recv.expected), x.record.width⟩],
      recv := { x.recv with nakOutstanding := true, unacked := 0, ackBound := none, nakDue := false, ackDue := false } }
  else if x.recv.ackDue then
    { x with
      out := x.out ++ [⟨.flit (.ack (x.recv.expected - 1)), x.record.width⟩],
      recv := { x.recv with unacked := 0, ackBound := none, ackDue := false } }
  else x

/-- A class of the port has freed credit to return (06 R107). -/
def owesCredit (x : PortState) : Bool :=
  x.ingress.account.stream.owes || x.ingress.account.query.owes || x.ingress.account.reply.owes

/-- The port after its CREDIT flit, where freed credit is due. -/
def returnedPort (x : PortState) (now : Time) : PortState :=
  if owesCredit x then
    { x with
      ingress := { x.ingress with account := x.ingress.account.map RxAccount.advertise, lastCredit := now },
      out := x.out ++
        [⟨.flit (.credit ((x.ingress.account.map RxAccount.advertise).map RxAccount.returns)), x.record.width⟩] }
  else x

theorem creditDue_eq (b : Bridge) (p : Port) : b.creditDue p = owesCredit (b.port p) := rfl

theorem sendAnswer_eq (p : Port) (b : Bridge) : sendAnswer p b = b.setPort p (answeredPort (b.port p)) := by
  unfold sendAnswer answeredPort
  split
  · exact sendNak_eq p b
  split
  · exact sendAck_eq p b
  · exact (setPort_port b p).symm

theorem sendReturns_eq (p : Port) (b : Bridge) :
    sendReturns p b = b.setPort p (returnedPort (b.port p) b.timeBase) := by
  unfold sendReturns returnedPort
  rw [creditDue_eq]
  split
  · exact sendCredit_eq p b
  · exact (setPort_port b p).symm

/-- An answer is due. -/
def owesAnswer (x : PortState) : Bool := x.recv.nakDue || x.recv.ackDue

/-- What is due goes in one order where it is one kind, and in one of the two orders where it is both; that choice is
counted (log 6, log 11). -/
theorem sendDue_eq (p : Port) (b : Bridge) : sendDue p b =
    if owesAnswer (b.port p) && owesCredit (b.port p) then
      { b with freeCtr := b.freeCtr + 1 }.setPort p
        (if Config.pick b.freeCtr % 2 = 0 then returnedPort (answeredPort (b.port p)) b.timeBase
          else answeredPort (returnedPort (b.port p) b.timeBase))
    else b.setPort p (returnedPort (answeredPort (b.port p)) b.timeBase) := by
  have hcounted : ({ b with freeCtr := b.freeCtr + 1 } : Bridge).port p = b.port p := rfl
  unfold sendDue
  simp only [sendAnswer_eq, sendReturns_eq, port_setPort_self, setPort_setPort, timeBase_setPort, creditDue_eq,
    hcounted, apply_ite (Bridge.setPort _ p)]
  rfl

/-! ### What is left to send -/

theorem answeredPort_record (x : PortState) : (answeredPort x).record = x.record := by
  unfold answeredPort
  split
  · rfl
  · split <;> rfl

theorem returnedPort_record (x : PortState) (now : Time) : (returnedPort x now).record = x.record := by
  unfold returnedPort
  split <;> rfl

theorem isActive_setPort (b : Bridge) (p : Port) (x : PortState) :
    (b.setPort p x).isActive p = (x.record.state == .active) := by
  rw [Bridge.isActive, Bridge.linkState, port_setPort_self]

theorem answeredPort_of_none {x : PortState} (h : owesAnswer x = false) : answeredPort x = x := by
  obtain ⟨hnak, hack⟩ := Bool.or_eq_false_iff.mp h
  rw [answeredPort, if_neg (Bool.eq_false_iff.mp hnak), if_neg (Bool.eq_false_iff.mp hack)]

theorem returnedPort_of_none {x : PortState} (h : owesCredit x = false) (now : Time) : returnedPort x now = x :=
  if_neg (Bool.eq_false_iff.mp h)

/-- After its answer a port owes none, and its credit as before. -/
theorem answeredPort_owes (x : PortState) :
    owesAnswer (answeredPort x) = false ∧ owesCredit (answeredPort x) = owesCredit x := by
  unfold answeredPort
  split
  · exact ⟨rfl, rfl⟩
  · next hnak =>
    split
    · exact ⟨by simpa [owesAnswer] using hnak, rfl⟩
    · next hack => exact ⟨by simp [owesAnswer, hnak, hack], rfl⟩

/-- After its CREDIT flit a port owes no credit, and its answer as before. -/
theorem returnedPort_owes (x : PortState) (now : Time) :
    owesCredit (returnedPort x now) = false ∧ (returnedPort x now).recv = x.recv := by
  unfold returnedPort
  split
  · exact ⟨rfl, rfl⟩
  · next hcredit => exact ⟨Bool.eq_false_iff.mpr hcredit, rfl⟩

theorem owesAnswer_returnedPort (x : PortState) (now : Time) :
    owesAnswer (returnedPort x now) = owesAnswer x := by
  rw [owesAnswer, (returnedPort_owes x now).2, owesAnswer]

theorem sendDue_of_none {p : Port} {b : Bridge} (hanswer : owesAnswer (b.port p) = false)
    (hcredit : owesCredit (b.port p) = false) : sendDue p b = b := by
  rw [sendDue_eq, hanswer, answeredPort_of_none hanswer, returnedPort_of_none hcredit, setPort_port]
  rfl

/-- Once the due flits have gone nothing is due. -/
theorem sendDue_sendDue (p : Port) (b : Bridge) : sendDue p (sendDue p b) = sendDue p b := by
  have hanswered := answeredPort_owes (b.port p)
  have hreturned := answeredPort_owes (returnedPort (b.port p) b.timeBase)
  apply sendDue_of_none
  all_goals
    rw [sendDue_eq]
    split
    · rw [port_setPort_self]
      split
      · simp only [owesAnswer_returnedPort, hanswered.1, (returnedPort_owes _ _).1]
      · simp only [hreturned, (returnedPort_owes _ _).1]
    · rw [port_setPort_self]
      simp only [owesAnswer_returnedPort, hanswered.1, (returnedPort_owes _ _).1]

/-! ### The due flits ahead of a packet -/

section
variable {p : Port} {s : State} (hrun : running s) (hactive : s.bridge.isActive p = true)
include hrun hactive

/-- The row of the due answer: NAK_SENT where a NAK is due, and ACK_SENT otherwise. -/
theorem exec_answer (howes : owesAnswer (s.bridge.port p) = true) :
    exec (if (s.bridge.port p).recv.nakDue then .nakSent p else .ackSent p) s =
      .next { s with bridge := s.bridge.setPort p (answeredPort (s.bridge.port p)) } := by
  rw [← sendAnswer_eq]
  by_cases hnak : (s.bridge.port p).recv.nakDue = true
  · rw [if_pos hnak, sendAnswer, if_pos hnak]
    exact exec_nakSent hrun hactive hnak
  · have hack : (s.bridge.port p).recv.ackDue = true := by simpa [owesAnswer, hnak] using howes
    rw [if_neg hnak, sendAnswer, if_neg hnak, if_pos hack]
    exact exec_ackSent hrun hactive hack

theorem exec_credit (howes : owesCredit (s.bridge.port p) = true) : exec (.creditFlitSent p) s =
    .next { s with bridge := s.bridge.setPort p (returnedPort (s.bridge.port p) s.bridge.timeBase) } := by
  rw [← sendReturns_eq, sendReturns, creditDue_eq, if_pos howes]
  exact exec_creditFlitSent hrun hactive howes

/-- The CREDIT flit goes as well after the answer. -/
theorem exec_credit_answered (howes : owesCredit (s.bridge.port p) = true) :
    exec (.creditFlitSent p) { s with bridge := s.bridge.setPort p (answeredPort (s.bridge.port p)) } =
      .next { s with
        bridge := s.bridge.setPort p (returnedPort (answeredPort (s.bridge.port p)) s.bridge.timeBase) } := by
  rw [exec_credit (p := p)]
  · simp only [port_setPort_self, setPort_setPort, timeBase_setPort]
  · exact hrun
  · rw [isActive_setPort, answeredPort_record]
    exact hactive
  · rw [port_setPort_self, (answeredPort_owes _).2, howes]

/-- The answer goes as well after the CREDIT flit. -/
theorem exec_answer_returned (howes : owesAnswer (s.bridge.port p) = true) :
    exec (if (s.bridge.port p).recv.nakDue then .nakSent p else .ackSent p)
        { s with bridge := s.bridge.setPort p (returnedPort (s.bridge.port p) s.bridge.timeBase) } =
      .next { s with
        bridge := s.bridge.setPort p (answeredPort (returnedPort (s.bridge.port p) s.bridge.timeBase)) } := by
  have hanswer := exec_answer (p := p)
    (s := { s with bridge := s.bridge.setPort p (returnedPort (s.bridge.port p) s.bridge.timeBase) }) hrun
    (by rw [isActive_setPort, returnedPort_record]; exact hactive)
    (by rw [port_setPort_self, owesAnswer_returnedPort, howes])
  simpa only [port_setPort_self, setPort_setPort, (returnedPort_owes _ _).2] using hanswer

/-- A row that acts as on the part with its due flits sent has them go first, each by its own row. -/
theorem dueFlitsGoFirst_of_sendDue {row : Instr}
    (hrow : exec row s = exec row { s with bridge := sendDue p s.bridge }) : DueFlitsGoFirst p row s := by
  have hanswers : ((s.bridge.port p).recv.nakDue = true ∨ (s.bridge.port p).recv.ackDue = true) ↔
      owesAnswer (s.bridge.port p) = true := by rw [owesAnswer, Bool.or_eq_true]
  have hdue := sendDue_eq p s.bridge
  unfold DueFlitsGoFirst
  dsimp only
  rw [hanswers, creditDue_eq, hrow]
  refine ⟨fun hanswer hcredit => ?_, fun hanswer hcredit => ?_, fun hanswer hcredit => ?_⟩
  · refine ⟨_, exec_answer hrun hactive hanswer, ?_⟩
    rw [hdue, hcredit, Bool.and_false, returnedPort_of_none ((answeredPort_owes _).2.trans hcredit)]
    rfl
  · have hanswer := Bool.eq_false_iff.mpr hanswer
    refine ⟨_, exec_credit hrun hactive hcredit, ?_⟩
    rw [hdue, hanswer, answeredPort_of_none hanswer]
    rfl
  · have hanswerRow := exec_answer hrun hactive hanswer
    have hcreditRow := exec_credit hrun hactive hcredit
    rw [hdue, hanswer, hcredit, Bool.and_self, if_pos rfl]
    by_cases hpick : Config.pick s.bridge.freeCtr % 2 = 0
    · rw [if_pos hpick]
      exact ⟨_, _, .inl ⟨hanswerRow, exec_credit_answered hrun hactive hcredit⟩, rfl⟩
    · rw [if_neg hpick]
      exact ⟨_, _, .inr ⟨hcreditRow, exec_answer_returned hrun hactive hanswer⟩, rfl⟩

end

/-! ### A replayed frame (07 R121) -/

/-- The due flits leave the send side and the time. -/
theorem sendDue_keeps (p : Port) (b : Bridge) : ((sendDue p b).port p).send = (b.port p).send ∧
    (sendDue p b).timeBase = b.timeBase ∧ (sendDue p b).rstLow = b.rstLow := by
  refine ⟨(sendDue_same p b p).1, ?_⟩
  rw [sendDue_eq]
  split <;> exact ⟨rfl, rfl⟩

section
variable {p : Port} {i : Nat} {f : Framed} {b : Bridge} (hpos : (b.port p).send.replayPos = some i)
  (hentry : (b.port p).send.buffer[i]? = some f)
include hpos hentry

/-- The frame at the replay position goes as it was first framed, after what is due. -/
theorem resend_eq : resend p b = ((sendDue p b).emitInUse p (.packet f)).onSend p (·.resent i b.timeBase) := by
  simp only [resend, hpos, hentry]

/-- A replay acts as on the part with its due flits sent. -/
theorem resend_sendDue : resend p (sendDue p b) = resend p b := by
  obtain ⟨hsend, htime, -⟩ := sendDue_keeps p b
  rw [resend_eq hpos hentry, resend_eq (hsend ▸ hpos) (hsend ▸ hentry), sendDue_sendDue, htime]

end

/-- A replay goes on to the next entry, and ends after the newest with the timer started (07 R121). -/
theorem resent_of_entry {x : SendSide} {i : Nat} {f : Framed} (hentry : x.buffer[i]? = some f) (now : Time) :
    x.resent i now = if i + 1 < x.buffer.length then { x with replayPos := some (i + 1) }
      else { x with replayPos := none, timerStart := some now } := by
  have hsome : x.buffer.isEmpty = false := by
    rw [List.isEmpty_eq_false_iff]
    rintro hempty
    rw [hempty] at hentry
    cases hentry
  simp only [SendSide.resent, hsome, Bool.false_eq_true, if_false]

theorem exec_replayResend {p : Port} {s : State} (hrun : running s) (hactive : s.bridge.isActive p = true) :
    exec (.replayResend p) s = .next { s with bridge := resend p s.bridge } :=
  congrArg _ (event_of_due hrun hactive)

theorem resend_of_none {p : Port} {b : Bridge} (hidle : (b.port p).send.replayPos = none) : resend p b = b := by
  simp only [resend, hidle]

/-- Settles O27: where nothing is replayed, what is due first, and the frame resent. -/
theorem replayResendsEntry : Obligations.ReplayResendsEntry := by
  unfold Obligations.ReplayResendsEntry
  refine ⟨fun p s hrun hidle => ?_, fun p i f s hrun => ?_⟩
  · by_cases hactive : s.bridge.isActive p = true
    · have hnone := hidle.resolve_left fun hinactive => Bool.eq_false_iff.mp hinactive hactive
      rw [exec_replayResend hrun hactive, resend_of_none hnone]
    · exact congrArg _ (event_of_not_due hrun hactive)
  · intro b x hactive hpos hentry
    have hsent := exec_replayResend hrun hactive
    refine ⟨dueFlitsGoFirst_of_sendDue hrun hactive ?_, fun hnak hack hcredit => ?_⟩
    · obtain ⟨-, -, hrst⟩ := sendDue_keeps p b
      have hdue := exec_replayResend (p := p) (s := { s with bridge := sendDue p b }) (hrst.trans hrun)
        (beq_iff_eq.mpr ((sendDue_same p b p).2 (beq_iff_eq.mp hactive)))
      rw [hsent, hdue, resend_sendDue hpos hentry]
    · have hquiet : sendDue p b = b := sendDue_of_none (Bool.or_eq_false_iff.mpr ⟨hnak, hack⟩) hcredit
      have hresent : (b.port p).send.resent i b.timeBase = _ := resent_of_entry hentry b.timeBase
      rw [hsent, resend_eq hpos hentry, hquiet]
      simp only [Bridge.emitInUse, Bridge.emit, Bridge.onSend, Bridge.onPort, port_setPort_self, setPort_setPort]
      rw [hresent]

end Sys2Proof.DueFlits
end

section
/-! Flits on the lanes (O52): the bytes of Table 7-2, the check value, and what is read back. -/

namespace Sys2Proof.FlitWire

open Sys2Proof.Machine Sys2Proof.Laws
open Sys2Proof.PacketWire (seqBytes_eq crcBytes_append_singleton crcBit_eq)

/-! ### The check value (07 R116) -/

theorem crc16_nil : crc16 [] = 0xFFFF := rfl

theorem crc16_append_singleton (bytes : List Byte) (x : Byte) : crc16 (bytes ++ [x]) =
    [7, 6, 5, 4, 3, 2, 1, 0].foldl
      (fun (c : BitVec 16) (i : Nat) => if c.msb = x.getLsbD i then c <<< 1 else (c <<< 1) ^^^ 0x1021)
      (crc16 bytes) := by
  simp only [crc16, crcBytes_append_singleton, crcByte, crcBit_eq]

/-! ### Bytes of a flit (07 Table 7-2) -/

/-- The byte with a flag in bit 7 and a rate code in bits 1 and 0. -/
def flagRateByte (flag : Bool) (rate : Rate) : Byte := BitVec.ofBool flag ++ (0 : BitVec 5) ++ rate.code

theorem flagRateByte_eq (flag : Bool) (rate : Rate) :
    flagRateByte flag rate = BitVec.ofNat 8 ((if flag then 128 else 0) + rate.code.toNat) := by
  cases flag <;> cases rate <;> rfl

theorem flagRateByte_fields (flag : Bool) (rate : Rate) :
    (flagRateByte flag rate).msb = flag ∧ (flagRateByte flag rate).toNat % 4 = rate.code.toNat := by
  cases flag <;> cases rate <;> exact ⟨rfl, rfl⟩

theorem lanesByte_field (w : Width) : (BitVec.ofNat 8 w.lanes).toNat % 32 = w.lanes := by cases w <;> rfl

/-- Bytes 1 and 2 of an ACK or NAK as a number: the low four bits of the first above the second. -/
theorem seqOf_eq (hi lo : Byte) : seqOf hi lo = BitVec.ofNat 12 (hi.toNat % 16 * 256 + lo.toNat) := by
  have hlo : lo.toNat < 2 ^ 8 := lo.isLt
  apply BitVec.eq_of_toNat_eq
  rw [seqOf, BitVec.toNat_append, ← Nat.shiftLeft_add_eq_or_of_lt hlo, Nat.shiftLeft_eq, BitVec.toNat_ofNat,
    BitVec.truncate_eq_setWidth, BitVec.toNat_setWidth]
  omega

theorem seqBytes_read (n : Seq) : ∃ hi lo, seqBytes n = [hi, lo] ∧ n = seqOf hi lo := by
  refine ⟨_, _, seqBytes_eq n, ?_⟩
  have hn : n.toNat < 4096 := n.isLt
  have hvalue : n.toNat / 256 % 256 % 16 * 256 + n.toNat % 256 % 256 = n.toNat := by omega
  rw [seqOf_eq, BitVec.toNat_ofNat, BitVec.toNat_ofNat, hvalue, BitVec.ofNat_toNat, BitVec.setWidth_eq]

/-! ### Reading a flit -/

/-- The flit has a good check value, the code in bits 7–4 of byte 0, and the bytes after byte 0. -/
def LaidOut (code : Nat) (rest : List Byte) (r : RawFlit) : Prop :=
  r.check = checkBytes16 (crc16 r.bytes) ∧ ∃ x : Byte, r.bytes = x :: rest ∧ x.toNat / 16 = code

theorem decode_eq_some (bytes : List Byte) (f : Flit) : Flit.decode bytes = some f ↔
    ∃ (x : Byte) (rest : List Byte), bytes = x :: rest ∧ Flit.ofBody (x.toNat / 16) rest = some f := by
  cases bytes with
  | nil => exact ⟨nofun, nofun⟩
  | cons x rest =>
    refine ⟨fun h => ⟨x, rest, rfl, h⟩, ?_⟩
    rintro ⟨_, _, ⟨rfl, rfl⟩, h⟩
    exact h

/-- A flit is read exactly where its check value is good and the bytes after its code spell it. -/
theorem readFlit_eq_some (r : RawFlit) (f : Flit) :
    readFlit r = some f ↔ ∃ code rest, LaidOut code rest r ∧ Flit.ofBody code rest = some f := by
  rw [readFlit, Option.ite_none_right_eq_some, beq_iff_eq, decode_eq_some]
  constructor
  · rintro ⟨hcheck, x, rest, hbytes, hbody⟩
    exact ⟨_, rest, ⟨hcheck, x, hbytes, rfl⟩, hbody⟩
  · rintro ⟨_, rest, ⟨hcheck, x, hbytes, rfl⟩, hbody⟩
    exact ⟨hcheck, x, rest, hbytes, hbody⟩

theorem readFlit_damaged {r : RawFlit} (h : r.check ≠ checkBytes16 (crc16 r.bytes)) : readFlit r = none :=
  if_neg fun hcheck => h (beq_iff_eq.mp hcheck)

/-- A code of 9–15 is no flit's. -/
theorem readFlit_unknown {r : RawFlit} {x : Byte} {rest : List Byte} (hbytes : r.bytes = x :: rest)
    (hcode : 9 ≤ x.toNat / 16) : readFlit r = none := by
  have hbody : Flit.ofBody (x.toNat / 16) rest = none := by
    obtain ⟨n, hn⟩ := Nat.exists_eq_add_of_le' hcode
    rw [hn]
    rfl
  have hdecode : Flit.decode r.bytes = none := by rw [hbytes]; exact hbody
  rw [readFlit, hdecode, ite_self]

/-- What each flit's own bytes after byte 0 spell. -/
theorem encode_body (f : Flit) : ∃ (x : Byte) (rest : List Byte), f.encode = x :: rest ∧
    Flit.ofBody (x.toNat / 16) rest = some f := by
  cases f with
  | train marker rate =>
    obtain ⟨hmarker, hrate⟩ := flagRateByte_fields marker rate
    exact ⟨_, _, rfl, (ofBody_eq_some 1 _ _).mpr ⟨flagRateByte marker rate, rfl, rfl, hmarker, hrate⟩⟩
  | config c =>
    obtain ⟨hrestart, hrate⟩ := flagRateByte_fields c.restart c.maxRate
    exact ⟨_, _, rfl, (ofBody_eq_some 2 _ _).mpr
      ⟨_, flagRateByte c.restart c.maxRate, rfl, rfl, lanesByte_field c.maxWidth, hrestart, hrate⟩⟩
  | ack n =>
    obtain ⟨hi, lo, hbytes, hn⟩ := seqBytes_read n
    exact ⟨_, _, rfl, (ofBody_eq_some 3 _ _).mpr ⟨hi, lo, rfl, hbytes, hn⟩⟩
  | nak n =>
    obtain ⟨hi, lo, hbytes, hn⟩ := seqBytes_read n
    exact ⟨_, _, rfl, (ofBody_eq_some 4 _ _).mpr ⟨hi, lo, rfl, hbytes, hn⟩⟩
  | credit t => exact ⟨_, _, rfl, (ofBody_eq_some 5 _ _).mpr ⟨rfl, rfl⟩⟩
  | idle => exact ⟨_, _, rfl, rfl⟩
  | park => exact ⟨_, _, rfl, rfl⟩
  | wake => exact ⟨_, _, rfl, rfl⟩
  | reset => exact ⟨_, _, rfl, rfl⟩

/-- Every flit is read back as itself. -/
theorem readFlit_onLanes (f : Flit) : readFlit f.onLanes = some f := by
  obtain ⟨x, rest, hbytes, hbody⟩ := encode_body f
  exact (readFlit_eq_some _ f).mpr ⟨_, rest, ⟨rfl, x, hbytes, rfl⟩, hbody⟩

/-- What is read, field by field. -/
theorem readFlit_iff (r : RawFlit) (f : Flit) : readFlit r = some f ↔
    match f with
    | .idle => LaidOut 0 [] r
    | .train marker rate => ∃ y : Byte, LaidOut 1 [y] r ∧ y.getLsbD 7 = marker ∧ y.toNat % 4 = rate.code.toNat
    | .config c => ∃ w y : Byte, LaidOut 2 (w :: y :: countBytes c.credits) r ∧
        w.toNat % 32 = c.maxWidth.lanes ∧ y.getLsbD 7 = c.restart ∧ y.toNat % 4 = c.maxRate.code.toNat
    | .ack n => ∃ h l : Byte, LaidOut 3 [h, l] r ∧ n = seqOf h l
    | .nak n => ∃ h l : Byte, LaidOut 4 [h, l] r ∧ n = seqOf h l
    | .credit t => LaidOut 5 (countBytes t) r
    | .park => LaidOut 6 [] r
    | .wake => LaidOut 7 [] r
    | .reset => LaidOut 8 [] r := by
  have hmsb (y : Byte) : y.getLsbD 7 = y.msb := (BitVec.msb_eq_getLsbD_last y).symm
  simp only [readFlit_eq_some, ofBody_eq_some, hmsb]
  cases f with
  | train marker rate =>
    constructor
    · rintro ⟨_, _, hlaid, y, rfl, rfl, hfields⟩
      exact ⟨y, hlaid, hfields⟩
    · rintro ⟨y, hlaid, hfields⟩
      exact ⟨_, _, hlaid, y, rfl, rfl, hfields⟩
  | config c =>
    constructor
    · rintro ⟨_, _, hlaid, w, y, rfl, rfl, hfields⟩
      exact ⟨w, y, hlaid, hfields⟩
    · rintro ⟨w, y, hlaid, hfields⟩
      exact ⟨_, _, hlaid, w, y, rfl, rfl, hfields⟩
  | ack n | nak n =>
    constructor
    · rintro ⟨_, _, hlaid, h, l, rfl, rfl, hn⟩
      exact ⟨h, l, hlaid, hn⟩
    · rintro ⟨h, l, hlaid, hn⟩
      exact ⟨_, _, hlaid, h, l, rfl, rfl, hn⟩
  | idle | credit _ | park | wake | reset =>
    constructor
    · rintro ⟨_, _, hlaid, rfl, rfl⟩
      exact hlaid
    · exact fun hlaid => ⟨_, _, hlaid, rfl, rfl⟩

/-- Settles O52: the bytes of each flit, the check value, and what is read and what is not. -/
theorem flitsReadBack : Obligations.FlitsReadBack := by
  unfold Obligations.FlitsReadBack
  intro counts code flag high low check
  have hcode (rate : Rate) : code rate = rate.code.toNat := by cases rate <;> rfl
  have hseq (n : Seq) : seqBytes n = [high n, low n] := seqBytes_eq n
  have hbyte (x : Bool) (rate : Rate) : flagRateByte x rate = BitVec.ofNat 8 (flag x + code rate) := by
    rw [hcode]
    exact flagRateByte_eq x rate
  refine ⟨fun f => ⟨rfl, ?_⟩, ⟨crc16_nil, crc16_append_singleton⟩, fun r => readFlit_damaged, readFlit_onLanes,
    fun r x rest => readFlit_unknown, ?_⟩
  · cases f with
    | train marker rate => exact congrArg (fun y => [0x10, y]) (hbyte marker rate)
    | config c =>
      obtain ⟨width, restart, rate, credits⟩ := c
      cases width <;> exact congrArg (fun y => _ :: _ :: y :: counts credits) (hbyte restart rate)
    | ack n => exact congrArg (List.cons 0x30) (hseq n)
    | nak n => exact congrArg (List.cons 0x40) (hseq n)
    | _ => rfl
  · intro layout number r f
    have hnumber (h l : Byte) : number h l = seqOf h l := (seqOf_eq h l).symm
    rw [readFlit_iff]
    cases f with
    | train _ _ | config _ =>
      simp only [hcode]
      exact Iff.rfl
    | ack n | nak n =>
      simp only [hnumber]
      exact Iff.rfl
    | _ => exact Iff.rfl

end Sys2Proof.FlitWire
end

section
/-! Signal lines (O34, O47): what makes a line notify or cancel, the level a SIGNAL sets, and the three commands that
write a line. -/

namespace Sys2Proof.SignalLines

open Sys2Proof.Machine Sys2Proof.Safety Sys2Proof.Laws
open Sys2Proof.WindowTable (exec_of_effect command_addr_toNat)
open Sys2Proof.TakenPackets (head_taken)

/-! ### A line just written -/

/-- The line is IDLE and its notify condition holds (09 Table 9-1, note 1). -/
def Notifies (l : Line) : Prop := l.state = .idle ∧ l.enabled = true ∧ l.masked = false ∧ l.level = true

/-- The line without its waiting notification (09 R152, R154). -/
def cancelled (l : Line) : Line := if l.state = .pending then { l with state := .idle } else l

theorem not_notifies_iff (l : Line) :
    ¬Notifies l ↔ l.state ≠ .idle ∨ l.enabled = false ∨ l.masked = true ∨ l.level = false := by
  simp only [Notifies, Classical.not_and_iff_not_or_not, Bool.not_eq_true, Bool.not_eq_false, ne_eq]

theorem notifies_iff_idle_due (l : Line) : Notifies l ↔ (l.state == .idle && l.due) = true := by
  simp [Notifies, Line.due, and_assoc]

section
variable {l : Line} (b : Bridge) (i : Fin 64)

theorem notifyIfDue_setLine (h : Notifies l) : notifyIfDue i (b.setLine i l) = notify i (b.setLine i l) := by
  rw [notifyIfDue, line_setLine_self, if_pos ((notifies_iff_idle_due l).mp h)]

theorem notifyIfDue_setLine_of_not (h : ¬Notifies l) : notifyIfDue i (b.setLine i l) = b.setLine i l := by
  rw [notifyIfDue, line_setLine_self, if_neg (mt (notifies_iff_idle_due l).mpr h)]

theorem cancelNotification_setLine (l : Line) :
    cancelNotification i (b.setLine i l) = b.setLine i (cancelled l) := by
  by_cases h : l.state = .pending <;> simp [cancelNotification, cancelled, h]

end

theorem cancelled_of_pending {l : Line} (h : l.state = .pending) : cancelled l = { l with state := .idle } := if_pos h

theorem cancelled_of_not_pending {l : Line} (h : l.state ≠ .pending) : cancelled l = l := if_neg h

/-! ### The level a SIGNAL sets (09 R150) -/

theorem takeLevel_assert (i : Fin 64) (u : UnitNo) (b : Bridge) : takeLevel i true u b =
    notifyIfDue i (b.setLine i { b.line i with level := true, lastUnit := some u }) := rfl

theorem takeLevel_deassert (i : Fin 64) (u : UnitNo) (b : Bridge) :
    takeLevel i false u b = b.setLine i (cancelled { b.line i with level := false }) :=
  cancelNotification_setLine b i _

theorem routeOf_signal {b : Bridge} {p : Port} {k : Packet} (hwf : malformed p k = false) (hkind : k.kind = .signal) :
    routeOf b p k = .signal k.line k.topInfo k.src := by
  simp only [routeOf, hwf, hkind, Bool.false_eq_true, if_false]

/-- Settles O34: by the level the SIGNAL carries, and there by the state of its line. -/
theorem takeSignalSetsLevel : Obligations.TakeSignalSetsLevel := by
  unfold Obligations.TakeSignalSetsLevel
  intro k rest s hrun b hpool hkind hwf l finish up
  have hfinish {level : Bool} {b' : Bridge} (hlevel : k.topInfo = level)
      (htaken : takeLevel k.line level k.src b = b') : finish b' := by
    subst hlevel htaken
    exact congrArg _ (head_taken hrun hpool (by rw [hkind]; rfl) hwf (routeOf_signal hwf hkind) rfl)
  refine ⟨fun htop hidle henabled hmasked => hfinish htop ?_, fun htop hnot => hfinish htop ?_,
    fun htop hpending => hfinish htop ?_, fun htop hnot => hfinish htop ?_⟩
  · exact notifyIfDue_setLine b _ (l := up) ⟨hidle, henabled, hmasked, rfl⟩
  · refine notifyIfDue_setLine_of_not b _ (l := up) ((not_notifies_iff up).mpr ?_)
    exact hnot.imp_right fun h => h.imp_right Or.inl
  · exact (takeLevel_deassert ..).trans (congrArg _ (cancelled_of_pending hpending))
  · exact (takeLevel_deassert ..).trans (congrArg _ (cancelled_of_not_pending hnot))

/-! ### The operands of SIGNAL_CONFIG (09 R159) -/

/-- The payload's bytes in the order written, byte 0 least significant (01 Table 1-9). -/
theorem linePayload_byte (c : Command) {k : Nat} (h : k < 4) :
    c.linePayload.extractLsb' (8 * k) 8 = c.byte (8 + k) := by
  match k, h with
  | 0, _ => exact BitVec.extractLsb'_append_eq_right
  | 1, _ => exact (BitVec.extractLsb'_append_eq_of_le (by decide)).trans BitVec.extractLsb'_append_eq_right
  | 2, _ =>
    have above : c.linePayload.extractLsb' 16 8 = (c.byte 11 ++ c.byte 10 ++ c.byte 9).extractLsb' 8 8 :=
      BitVec.extractLsb'_append_eq_of_le (by decide)
    exact above.trans ((BitVec.extractLsb'_append_eq_of_le (by decide)).trans BitVec.extractLsb'_append_eq_right)
  | 3, _ =>
    have above : c.linePayload.extractLsb' 24 8 = (c.byte 11 ++ c.byte 10 ++ c.byte 9).extractLsb' 16 8 :=
      BitVec.extractLsb'_append_eq_of_le (by decide)
    exact above.trans ((BitVec.extractLsb'_append_eq_of_le (by decide)).trans BitVec.extractLsb'_append_eq_left)

/-! ### The commands on a line -/

/-- The line as SIGNAL_CONFIG writes it. -/
def configured (c : Command) (l : Line) : Line :=
  { l with enabled := (c.byte 1).getLsbD 0, target := c.addr 2, payload := c.linePayload }

/-- A line number of 64–255 is out of range for the three commands (09 R156). -/
theorem signalCommands_range {c : Command} (h : 64 ≤ c.num 0) (b : Bridge) :
    signalConfigEffect c b = refuse .range b ∧ signalMaskEffect c b = refuse .range b ∧
      signalServicedEffect c b = refuse .range b := by
  simp [signalConfigEffect, signalMaskEffect, signalServicedEffect, index?_none h]

section
variable {c : Command} {i : Fin 64} (hi : c.num 0 = i.val) (b : Bridge)
include hi

theorem signalConfig_unaligned (h : (c.addr 2).toNat % 4 ≠ 0) : signalConfigEffect c b = refuse .range b := by
  simp [signalConfigEffect, hi, index?_val, h]

theorem signalConfig_aligned (h : (c.addr 2).toNat % 4 = 0) : signalConfigEffect c b = done []
    (if (c.byte 1).getLsbD 0 then notifyIfDue i (b.setLine i (configured c (b.line i)))
    else cancelNotification i (b.setLine i (configured c (b.line i)))) := by
  simp only [signalConfigEffect, hi, index?_val, h, ne_eq, not_true_eq_false, if_false, configured]

theorem signalConfig_enabling (h : (c.addr 2).toNat % 4 = 0) (hon : (c.byte 1).getLsbD 0 = true) :
    signalConfigEffect c b = done [] (notifyIfDue i (b.setLine i (configured c (b.line i)))) := by
  rw [signalConfig_aligned hi b h, if_pos hon]

theorem signalConfig_disabling (h : (c.addr 2).toNat % 4 = 0) (hoff : (c.byte 1).getLsbD 0 = false) :
    signalConfigEffect c b = done [] (b.setLine i (cancelled (configured c (b.line i)))) := by
  rw [signalConfig_aligned hi b h, if_neg (Bool.eq_false_iff.mp hoff), cancelNotification_setLine]

theorem signalMask_range (h : 2 ≤ c.num 1) : signalMaskEffect c b = refuse .range b := by
  obtain ⟨v, hv⟩ := Nat.exists_eq_add_of_le' h
  simp [signalMaskEffect, hi, index?_val, hv]

theorem signalMask_masking (h : c.num 1 = 1) :
    signalMaskEffect c b = done [] (b.setLine i (cancelled { b.line i with masked := true })) := by
  rw [← cancelNotification_setLine]
  simp [signalMaskEffect, hi, index?_val, h]

theorem signalMask_unmasking (h : c.num 1 = 0) :
    signalMaskEffect c b = done [] (notifyIfDue i (b.setLine i { b.line i with masked := false })) := by
  simp [signalMaskEffect, hi, index?_val, h]

theorem signalServiced_outstanding (h : (b.line i).state = .outstanding) :
    signalServicedEffect c b = done [] (notifyIfDue i (b.setLine i { b.line i with state := .idle })) := by
  simp [signalServicedEffect, hi, index?_val, h]

theorem signalServiced_state (h : (b.line i).state ≠ .outstanding) : signalServicedEffect c b = refuse .state b := by
  simp [signalServicedEffect, hi, index?_val, h]

end

/-- Settles O47: the operands, the refused line numbers, and each command by the line it writes. -/
theorem signalCommandsOnLine : Obligations.SignalCommandsOnLine := by
  unfold Obligations.SignalCommandsOnLine
  refine ⟨fun c => ⟨command_addr_toNat c 2, fun k => linePayload_byte c⟩, fun s c hnum => ?_, fun s c i hi => ?_⟩
  · obtain ⟨hconfig, hmask, hserviced⟩ := signalCommands_range hnum s.bridge
    exact ⟨fun hready => exec_of_effect hready rfl hconfig, fun hready => exec_of_effect hready rfl hmask,
      fun hready => exec_of_effect hready rfl hserviced⟩
  intro b l ok refused
  have hnotify {l : Line} (h : Notifies l) := congrArg (done []) (notifyIfDue_setLine b i h)
  have hquiet {l : Line} (h : l.state ≠ .idle ∨ l.enabled = false ∨ l.masked = true ∨ l.level = false) :=
    congrArg (done []) (notifyIfDue_setLine_of_not b i ((not_notifies_iff l).mpr h))
  refine ⟨fun hready => ?_, fun hready => ?_, fun hready => ?_⟩
  · intro x
    refine ⟨fun hodd => ?_, fun haligned hon hidle hmasked hlevel => ?_, fun haligned hon hnot => ?_,
      fun haligned hoff => ?_⟩
    · exact exec_of_effect hready rfl (signalConfig_unaligned hi b hodd)
    · have hx : Notifies x := ⟨hidle, hon, hmasked, hlevel⟩
      exact exec_of_effect hready rfl ((signalConfig_enabling hi b haligned hon).trans (hnotify hx))
    · exact exec_of_effect hready rfl
        ((signalConfig_enabling hi b haligned hon).trans (hquiet (l := x) (hnot.imp_right Or.inr)))
    · exact exec_of_effect hready rfl (signalConfig_disabling hi b haligned hoff)
  · refine ⟨fun hrange => ?_, fun hone => ?_, fun hzero hidle hon hlevel => ?_, fun hzero hnot => ?_⟩
    · exact exec_of_effect hready rfl (signalMask_range hi b hrange)
    · exact exec_of_effect hready rfl (signalMask_masking hi b hone)
    · have hx : Notifies { l with masked := false } := ⟨hidle, hon, rfl, hlevel⟩
      exact exec_of_effect hready rfl ((signalMask_unmasking hi b hzero).trans (hnotify hx))
    · exact exec_of_effect hready rfl ((signalMask_unmasking hi b hzero).trans
        (hquiet (l := { l with masked := false }) (hnot.imp_right fun h => h.imp_right Or.inr)))
  · refine ⟨fun hstate => ?_, fun hstate hon hmasked hlevel => ?_, fun hstate hnot => ?_⟩
    · exact exec_of_effect hready rfl (signalServiced_state hi b hstate)
    · have hx : Notifies { l with state := .idle } := ⟨rfl, hon, hmasked, hlevel⟩
      exact exec_of_effect hready rfl ((signalServiced_outstanding hi b hstate).trans (hnotify hx))
    · exact exec_of_effect hready rfl ((signalServiced_outstanding hi b hstate).trans
        (hquiet (l := { l with state := .idle }) (.inr hnot)))

end Sys2Proof.SignalLines
end

section
/-! The part's own packets (O40): the form of notifications and management replies, and their admission at once or
later. -/

namespace Sys2Proof.OwnPackets

open Sys2Proof.Machine Sys2Proof.Safety Sys2Proof.Laws
open Sys2Proof.WindowTable (find?_finRange_eq_some_iff)

/-! ### The form of a reply (01 Table 1-9, 10 Table 10-2) -/

/-- The payload blocks of a reply: none without reply data, else those of its 4 header bytes and its data. -/
def replyBlocks (data : List Byte) : Nat := if data = [] then 0 else blocksOf (4 + data.length)

/-- The zero bytes that fill the last block of a reply with data. -/
def replyFill (data : List Byte) : List Byte := zeros (64 * replyBlocks data - (4 + data.length))

theorem replyPayload_eq (code : BitVec 6) (data : List Byte) : replyPayload code data =
    if data = [] then []
    else [BitVec.ofNat 8 data.length, code.zeroExtend 8, 0, 0] ++ data ++ replyFill data := by
  by_cases h : data = [] <;> simp [replyPayload, replyFill, replyBlocks, h]

/-- The last block is filled exactly. -/
theorem length_replyFill {data : List Byte} (h : data ≠ []) :
    4 + data.length + (replyFill data).length = 64 * replyBlocks data := by
  simp only [replyFill, replyBlocks, if_neg h, zeros, List.length_replicate, blocksOf]
  omega

theorem length_replyPayload (code : BitVec 6) (data : List Byte) :
    (replyPayload code data).length = 64 * replyBlocks data := by
  rw [replyPayload_eq]
  by_cases h : data = []
  · simp [h, replyBlocks]
  · rw [if_neg h, ← length_replyFill h]
    simp only [List.length_append, List.length_cons, List.length_nil]

theorem replyPacket_eq (bridge dst : UnitNo) (tag : Tag) (code : BitVec 6) (status : Status) (data : List Byte) :
    replyPacket bridge dst tag code status data =
      { kind := .done, ordered := false, speculative := false, blocks := BitVec.ofNat 3 (replyBlocks data),
        src := bridge, dst := dst, tag := tag, addr := 0, len := 0, info := status.code.zeroExtend 8,
        payload := if data = [] then []
          else [BitVec.ofNat 8 data.length, code.zeroExtend 8, 0, 0] ++ data ++ replyFill data } := by
  rw [replyPacket, length_replyPayload, Nat.mul_div_cancel_left _ (by decide), replyPayload_eq]
  rfl

/-! ### Pushed at once, or waiting -/

section
variable {b : Bridge}

theorem notify_of_place (i : Fin 64) (h : b.hasPlace .root .stream = true) :
    notify i b = push (Push.plain .root (notificationPut b.unit (b.line i)))
      (b.setLine i { b.line i with state := .outstanding }) := if_pos h

theorem notify_of_full (i : Fin 64) (h : b.hasPlace .root .stream = false) :
    notify i b = b.setLine i { b.line i with state := .pending } := if_neg (Bool.eq_false_iff.mp h)

/-- The engine once a reply is admitted: an immediate one frees its command's queue place (10 R163). -/
def replied (r : MgmtReply) (e : Engine) : Engine := { e with queue := if r.immediate then e.queue.tail else e.queue }

theorem onEngine_replied (r : MgmtReply) (b : Bridge) :
    (if r.immediate then b.onEngine fun e => { e with queue := e.queue.tail } else b) = b.onEngine (replied r) := by
  cases h : r.immediate <;> simp [replied, h, Bridge.onEngine]

theorem any_port_eq_true_iff (rs : List MgmtReply) (p : Port) :
    (rs.any fun w => w.port == p) = true ↔ ∃ w ∈ rs, w.port = p := by
  simp only [List.any_eq_true, beq_iff_eq]

section
variable {push : Push → Bridge → Bridge} {r : MgmtReply} (wakes : Bool)

theorem deliverWith_admits
    (h : b.isDown r.port = true ∨ (b.hasRoom r.port .reply = true ∧ ∀ w ∈ b.engine.waiting, w.port ≠ r.port)) :
    deliverWith push r wakes b = push { Push.reply r.port r.pkt with wakes := wakes } (b.onEngine (replied r)) := by
  rw [deliverWith, onEngine_replied]
  refine if_pos ?_
  simpa using h

theorem deliverWith_waits (hup : b.isDown r.port = false)
    (h : b.hasRoom r.port .reply = false ∨ ∃ w ∈ b.engine.waiting, w.port = r.port) :
    deliverWith push r wakes b = b.onEngine fun e => { e with waiting := e.waiting ++ [r] } := by
  refine if_neg ?_
  rw [← any_port_eq_true_iff] at h
  rcases h with h | h <;> simp [hup, h]

end

end

/-! ### Admitted later -/

theorem pendingLine?_eq_some_iff (b : Bridge) (i : Fin 64) : b.pendingLine? = some i ↔
    (b.line i).state = .pending ∧ ∀ j, (b.line j).state = .pending → i ≤ j := by
  simpa only [Bridge.pendingLine?, beq_iff_eq] using
    find?_finRange_eq_some_iff (fun j => (b.line j).state == .pending) i

theorem pendingLine?_eq_none_iff (b : Bridge) : b.pendingLine? = none ↔ ∀ j, (b.line j).state ≠ .pending := by
  simp [Bridge.pendingLine?]

section
variable {p : Port} {older newer : List MgmtReply} {r : MgmtReply} (holder : ∀ o ∈ older, o.port ≠ p) (hr : r.port = p)
include holder hr

theorem find?_oldest : (older ++ r :: newer).find? (·.port == p) = some r := by
  have hnone : older.find? (·.port == p) = none :=
    List.find?_eq_none.mpr fun o ho => mt beq_iff_eq.mp (holder o ho)
  rw [List.find?_append, hnone, Option.none_or]
  exact List.find?_cons_of_pos (beq_iff_eq.mpr hr)

theorem eraseP_oldest : (older ++ r :: newer).eraseP (·.port == p) = older ++ newer := by
  rw [List.eraseP_append_right _ fun o ho => mt beq_iff_eq.mp (holder o ho)]
  exact congrArg _ (List.eraseP_cons_of_pos (beq_iff_eq.mpr hr))

/-- The oldest reply for a Reply queue, those before it being for the other (10 R169). -/
theorem admitReply_oldest {b : Bridge} (hwaiting : b.engine.waiting = older ++ r :: newer) :
    admitReply p b = push (Push.reply p r.pkt)
      (b.onEngine fun e => replied r { e with waiting := older ++ newer }) := by
  simp only [admitReply, hwaiting, find?_oldest holder hr, onEngine_replied]
  simp only [Bridge.onEngine, hwaiting, eraseP_oldest holder hr]

end

section
variable {s : State}

theorem exec_notificationAdmitted {i : Fin 64} (hrun : running s) (hfirst : s.bridge.pendingLine? = some i)
    (hplace : s.bridge.hasPlace .root .stream = true) :
    exec .notificationAdmitted s = .next { s with bridge := admitLine i s.bridge } := by
  simp only [exec, execNotificationAdmitted, event_high s _ hrun, State.onBridge, hfirst, hplace, if_true]

theorem exec_notificationAdmitted_idle (hrun : running s) (hnone : s.bridge.pendingLine? = none) :
    exec .notificationAdmitted s = .next s := by
  simp only [exec, execNotificationAdmitted, event_high s _ hrun, State.onBridge, hnone]

theorem exec_managementReplyAdmitted {p : Port} (hrun : running s) (hplace : s.bridge.hasPlace p .reply = true) :
    exec (.managementReplyAdmitted p) s = .next { s with bridge := admitReply p s.bridge } := by
  simp only [exec, execManagementReplyAdmitted, event_high s _ hrun, State.onBridge, hplace, if_true]

end

/-- Settles O40: the two forms, the pushes of a notification and a reply, and the admission of waiting ones. -/
theorem ownPacketsAreAdmittedOrWait : Obligations.OwnPacketsAreAdmittedOrWait := by
  unfold Obligations.OwnPacketsAreAdmittedOrWait
  intro entering
  refine ⟨fun _ _ => rfl, fun bridge dst tag code status data _ => ?_, fun b i => ⟨notify_of_place i, notify_of_full i⟩,
    fun r wakes b => ⟨rfl, deliverWith_admits wakes, deliverWith_waits wakes⟩, fun s hrun => ?_⟩
  · exact ⟨replyFill data, replyPacket_eq bridge dst tag code status data, fun _ => List.eq_of_mem_replicate,
      length_replyFill⟩
  · intro b
    refine ⟨fun i hpending hlowest hplace => ?_, fun hnone => ?_, fun p older newer r hwaiting holder hr hplace => ?_⟩
    · exact exec_notificationAdmitted hrun ((pendingLine?_eq_some_iff b i).mpr ⟨hpending, hlowest⟩) hplace
    · exact exec_notificationAdmitted_idle hrun ((pendingLine?_eq_none_iff b).mpr hnone)
    · rw [exec_managementReplyAdmitted hrun hplace, admitReply_oldest holder hr hwaiting]
      rfl

end Sys2Proof.OwnPackets
end

section
/-! The Management Engine's lists (O57): at most 8 commands, 4 deferred commands and one immediate reply waiting, and
every waiting reply a DONE. Outside the executed head an event only shortens the lists, adds the DONE of a deferred
command, or hands a command over where the command queue has a free place (`ListsServed`); the head is executed by a
free engine alone, so its own reply is the one immediate reply that waits. -/

namespace Sys2Proof.EngineLists

open Sys2Proof.Machine Sys2Proof.Safety Sys2Proof.Laws
open Sys2Proof.OwnPackets (replied onEngine_replied)

/-! ### What events beside the executed head do to the lists -/

/-- The engine's lists are as events beside an executed head may leave them: a command joins the queue up to its 8
places alone, no deferred command and no immediate reply joins, and a reply that joins is a DONE. -/
structure ListsServed (b b' : Bridge) : Prop where
  queue : b'.engine.queue.length ≤ max b.engine.queue.length Config.commandPlaces
  deferred : b'.engine.deferred.length ≤ b.engine.deferred.length
  immediate : (b'.engine.waiting.filter (·.immediate)).length ≤ (b.engine.waiting.filter (·.immediate)).length
  done : RepliesAreDone b → RepliesAreDone b'

theorem ListsServed.of_sublists {b b' : Bridge} (hqueue : b'.engine.queue.Sublist b.engine.queue)
    (hdeferred : b'.engine.deferred.length ≤ b.engine.deferred.length)
    (hwaiting : b'.engine.waiting.Sublist b.engine.waiting) : ListsServed b b' where
  queue := Nat.le_trans hqueue.length_le (Nat.le_max_left ..)
  deferred := hdeferred
  immediate := (hwaiting.filter _).length_le
  done h r hr := h r (hwaiting.subset hr)

theorem ListsServed.of_engine {b b' : Bridge} (h : b'.engine = b.engine) : ListsServed b b' :=
  .of_sublists (h ▸ List.Sublist.refl b'.engine.queue) (Nat.le_of_eq (congrArg (·.deferred.length) h))
    (h ▸ List.Sublist.refl b'.engine.waiting)

theorem ListsServed.refl (b : Bridge) : ListsServed b b := .of_engine rfl

theorem ListsServed.trans {a b c : Bridge} (h : ListsServed a b) (k : ListsServed b c) : ListsServed a c where
  queue := Nat.le_trans k.queue (Nat.max_le.mpr ⟨h.queue, Nat.le_max_right ..⟩)
  deferred := Nat.le_trans k.deferred h.deferred
  immediate := Nat.le_trans k.immediate h.immediate
  done := k.done ∘ h.done

theorem ListsServed.rest {a b b' : Bridge} (h : ListsServed a b) (k : b'.engine = b.engine) : ListsServed a b' :=
  h.trans (.of_engine k)

theorem ListsServed.after {a b b' : Bridge} (h : ListsServed b b') (k : b.engine = a.engine) : ListsServed a b' :=
  (ListsServed.of_engine k).trans h

theorem ListsServed.foldl {α : Type} {f : Bridge → α → Bridge} (hf : ∀ x b, ListsServed b (f b x)) (l : List α)
    (b : Bridge) : ListsServed b (l.foldl f b) := by
  induction l generalizing b with
  | nil => exact .refl b
  | cons x l ih => exact (hf x b).trans (ih (f b x))

theorem ListsServed.engineInv {b b' : Bridge} (hs : ListsServed b b') (h : EngineInv b) : EngineInv b' := by
  obtain ⟨hqueue, hdeferred, himmediate, hdone⟩ := h
  exact ⟨Nat.le_trans hs.queue (Nat.max_le.mpr ⟨hqueue, Nat.le_refl _⟩), Nat.le_trans hs.deferred hdeferred,
    Nat.le_trans hs.immediate himmediate, hs.done hdone⟩

/-! ### Taking off a list -/

theorem eraseDeferred_served (b : Bridge) (test : Deferred → Bool) :
    ListsServed b (b.onEngine fun e => { e with deferred := e.deferred.eraseP test }) :=
  .of_sublists (.refl _) List.eraseP_sublist.length_le (.refl _)

theorem eraseWaiting_served (b : Bridge) (test : MgmtReply → Bool) :
    ListsServed b (b.onEngine fun e => { e with waiting := e.waiting.eraseP test }) :=
  .of_sublists (.refl _) (Nat.le_refl _) List.eraseP_sublist

theorem replied_served (b : Bridge) (r : MgmtReply) : ListsServed b (b.onEngine (replied r)) := by
  refine .of_sublists ?_ (Nat.le_refl _) (.refl _)
  show (if r.immediate then b.engine.queue.tail else b.engine.queue).Sublist b.engine.queue
  split
  · exact List.tail_sublist _
  · exact .refl _

/-! ### Pushes, records and replies (chapter 5) -/

theorem place_engine (b : Bridge) (x : Push) : (b.place x).engine = b.engine := by
  unfold Bridge.place
  dsimp only
  split <;> rfl

theorem enterRecord_engine (b : Bridge) (r : Record) : (b.enterRecord r).engine = b.engine := by
  unfold Bridge.enterRecord
  dsimp only
  split <;> rfl

/-- A formed reply is pushed, or it waits (10 R169). -/
theorem deliverWith_pushes_or_waits (push : Push → Bridge → Bridge) (r : MgmtReply) (wakes : Bool) (b : Bridge) :
    deliverWith push r wakes b = push { Push.reply r.port r.pkt with wakes := wakes } (b.onEngine (replied r)) ∨
      deliverWith push r wakes b = b.onEngine fun e => { e with waiting := e.waiting ++ [r] } := by
  rw [deliverWith, onEngine_replied]
  split
  · exact .inl rfl
  · exact .inr rfl

section
variable {push : Push → Bridge → Bridge} (hp : ∀ x b, ListsServed b (push x b))
include hp

theorem notifyWith_served (i : Fin 64) (b : Bridge) : ListsServed b (notifyWith push i b) := by
  unfold notifyWith
  dsimp only
  split
  · exact (hp _ _).after rfl
  · exact .of_engine rfl

theorem recordWith_served (r : Record) (b : Bridge) : ListsServed b (recordWith push r b) := by
  have hentered := ListsServed.of_engine (enterRecord_engine b r)
  unfold recordWith
  dsimp only
  split
  · exact hentered.trans (notifyWith_served hp 0 _)
  · exact hentered

/-- The DONE of a deferred command waits at most, and is not an immediate reply. -/
theorem deliverWith_served (d : Deferred) (unit : UnitNo) (status : Status) (data : List Byte) (wakes : Bool)
    (b : Bridge) : ListsServed b (deliverWith push (d.reply unit status data) wakes b) := by
  rcases deliverWith_pushes_or_waits push (d.reply unit status data) wakes b with hpushed | hwaits
  · rw [hpushed]
    exact (replied_served b _).trans (hp _ _)
  · rw [hwaits]
    exact {
      queue := Nat.le_max_left ..
      deferred := Nat.le_refl _
      immediate := by simp [Bridge.onEngine, Deferred.reply]
      done := fun h r hr => by
        rcases List.mem_append.mp hr with hold | hnew
        · exact h r hold
        · rw [List.mem_singleton.mp hnew]; rfl }

theorem failDrainWith_served (p : Port) (b : Bridge) : ListsServed b (failDrainWith push p b) := by
  unfold failDrainWith
  split
  · exact .refl b
  · exact (eraseDeferred_served b _).trans (deliverWith_served hp _ _ _ _ _ _)

end

theorem pushWith_served (fuel : Nat) (x : Push) (b : Bridge) : ListsServed b (pushWith fuel x b) := by
  induction fuel generalizing x b with
  | zero =>
    unfold pushWith
    split
    · exact .of_engine (enterRecord_engine b _)
    · exact .of_engine (place_engine b x)
  | succ fuel ih =>
    unfold pushWith
    split
    · exact recordWith_served ih _ b
    · exact (ListsServed.of_engine (place_engine b x)).trans (failDrainWith_served ih _ _)

theorem push_served (x : Push) (b : Bridge) : ListsServed b (push x b) := pushWith_served 5 x b

theorem raise_served (r : Record) (b : Bridge) : ListsServed b (raise r b) := recordWith_served push_served r b

theorem raiseIf_served (r : Option Record) (b : Bridge) : ListsServed b (raiseIf r b) := by
  cases r with
  | none => exact .refl b
  | some r => exact raise_served r b

theorem notifyIfDue_served (i : Fin 64) (b : Bridge) : ListsServed b (notifyIfDue i b) := by
  unfold notifyIfDue
  split
  · exact notifyWith_served push_served i b
  · exact .refl b

theorem cancelNotification_served (i : Fin 64) (b : Bridge) : ListsServed b (cancelNotification i b) := by
  unfold cancelNotification
  dsimp only
  split
  · exact .of_engine rfl
  · exact .refl b

theorem failDrain_served (p : Port) (b : Bridge) : ListsServed b (failDrain p b) := failDrainWith_served push_served p b

theorem enter_engine (x : Push) (b : Bridge) : (enter x b).engine = b.engine := by
  unfold enter
  split
  · rfl
  · exact place_engine b x

theorem follow_served (x : Push) (b : Bridge) : ListsServed b (follow x b) := by
  unfold follow
  split
  · exact recordWith_served push_served _ b
  · exact failDrainWith_served push_served _ b

theorem pushBoth_served (x y : Push) (b : Bridge) : ListsServed b (pushBoth x y b) :=
  ((ListsServed.of_engine ((enter_engine y _).trans (enter_engine x b))).trans (follow_served x _)).trans
    (follow_served y _)

theorem answerRetire_served (i : Fin 32) (b : Bridge) : ListsServed b (answerRetire i b) := by
  unfold answerRetire
  split
  · exact .refl b
  · exact (eraseDeferred_served b _).trans (deliverWith_served push_served _ _ _ _ _ _)

theorem answerRetrain_served (p : Port) (status : Status) (data : List Byte) (b : Bridge) :
    ListsServed b (answerRetrain p status data b) := by
  unfold answerRetrain
  split
  · exact .refl b
  · exact (eraseDeferred_served b _).trans (deliverWith_served push_served _ _ _ _ _ _)

theorem admitReply_served (p : Port) (b : Bridge) : ListsServed b (admitReply p b) := by
  unfold admitReply
  split
  · exact .refl b
  · dsimp only
    rw [onEngine_replied]
    exact ((eraseWaiting_served b _).trans (replied_served _ _)).trans (push_served _ _)

theorem admitLine_served (i : Fin 64) (b : Bridge) : ListsServed b (admitLine i b) :=
  (push_served _ _).after rfl

/-! ### Entries (chapter 4) -/

theorem freeEntry_served (d : Dir) (e : Fin 64) (b : Bridge) : ListsServed b (freeEntry d e b) := by
  unfold freeEntry
  dsimp only
  split
  · exact .of_engine rfl
  · unfold releaseSlot
    dsimp only
    split
    · exact (answerRetire_served _ _).after rfl
    · exact .of_engine rfl

theorem pushOwed_served (d : Dir) (e : Fin 64) (b : Bridge) : ListsServed b (pushOwed d e b) := by
  have hdone := push_served (Push.plain d.requesterPort (owedDone b.unit (b.entry d e))) b
  unfold pushOwed
  dsimp only
  split
  · exact hdone.trans (freeEntry_served d e _)
  · exact hdone.rest rfl

/-! ### Routes carried out (chapter 3) -/

theorem allocate_served (d : Dir) (k : Packet) (slot : Option (Fin 32)) (b : Bridge) :
    ListsServed b (allocate d k slot b) := by
  unfold allocate
  split
  · exact .refl b
  · refine (ListsServed.of_engine ?_).trans (push_served _ _)
    cases slot <;> rfl

theorem takeLevel_served (i : Fin 64) (level : Bool) (unit : UnitNo) (b : Bridge) :
    ListsServed b (takeLevel i level unit b) := by
  unfold takeLevel
  split
  · exact (notifyIfDue_served i _).after rfl
  · exact (cancelNotification_served i _).after rfl

theorem restoreReply_served (d : Dir) (e : Fin 64) (k : Packet) (b : Bridge) :
    ListsServed b (restoreReply d e k b) := by
  have hreply := push_served (Push.plain d.requesterPort (restored (b.entry d e) k)) b
  unfold restoreReply
  dsimp only
  split
  · exact hreply.trans (freeEntry_served d e _)
  · exact hreply.rest rfl

theorem dropReply_served (d : Dir) (e : Fin 64) (k : Packet) (b : Bridge) : ListsServed b (dropReply d e k b) := by
  unfold dropReply
  dsimp only
  split
  · exact raise_served _ b
  split
  · exact (raise_served _ _).after rfl
  · exact (raise_served _ _).after rfl
  · refine ListsServed.trans ?_ (raise_served _ _)
    split
    · exact freeEntry_served d e b
    · exact .refl b
  · exact .refl b

theorem takeNotice_served (d : Dir) (e : Fin 64) (final : Bool) (b : Bridge) :
    ListsServed b (takeNotice d e final b) := by
  unfold takeNotice
  dsimp only
  split
  · exact .refl b
  split
  · exact .refl b
  · exact .of_engine rfl
  · exact .of_engine rfl
  · split
    · exact freeEntry_served d e b
    · exact .refl b

/-- A command is handed over where the command queue has a free place (10 R163). -/
theorem handOver_served {b : Bridge} (c : Command) (hroom : b.engine.queue.length < Config.commandPlaces) :
    ListsServed b (b.onEngine fun e => { e with queue := e.queue ++ [c] }) where
  queue := by
    show (b.engine.queue ++ [c]).length ≤ _
    rw [List.length_append, List.length_singleton]
    exact Nat.le_trans hroom (Nat.le_max_right ..)
  deferred := Nat.le_refl _
  immediate := Nat.le_refl _
  done := id

theorem engine_ready {b : Bridge} {c : Command} (h : (Route.engine c).ready b = true) :
    b.engine.queue.length < Config.commandPlaces := by
  simpa [Route.ready, Route.uses] using h

theorem carryOut_served {r : Route} {b : Bridge} (h : r.ready b = true) : ListsServed b (r.carryOut b) := by
  cases r with
  | single x => exact push_served x b
  | entry d k slot => exact allocate_served d k slot b
  | earlyAck x y => exact pushBoth_served x y b
  | answer x rec => exact (push_served x b).trans (raiseIf_served rec _)
  | engine c => exact handOver_served c (engine_ready h)
  | signal i level unit => exact takeLevel_served i level unit b
  | restore d e k => exact restoreReply_served d e k b
  | badReply d e k => exact dropReply_served d e k b
  | discard rec => exact raise_served rec b
  | notice rec d e final => exact (takeNotice_served d e final b).trans (raise_served rec _)

theorem takeAt_served (p : Port) (c : Cls) (i : Nat) (b : Bridge) : ListsServed b (takeAt p c i b) := by
  unfold takeAt
  dsimp only
  split
  · exact .refl b
  · split
    · next hready => exact (carryOut_served hready).rest rfl
    · exact .refl b

theorem takeHead_served (p : Port) (c : Cls) (kinds : List Kind) (b : Bridge) :
    ListsServed b (takeHead p c kinds b) := by
  unfold takeHead
  split
  · exact .refl b
  split
  · exact takeAt_served p c 0 b
  · exact .refl b

/-! ### The offering of freed places (05 R90) -/

theorem admitFirst_served {b b' : Bridge} {p : Port} {c : Cls} (hb : admitFirst p c b = some b') :
    ListsServed b b' := by
  simp only [admitFirst, Option.orElse_eq_orElse, Option.orElse_eq_or, Option.or_eq_some_iff] at hb
  rcases hb with (hrank1 | ⟨_, hrank2⟩) | ⟨_, hrank3 | ⟨_, hrank45⟩⟩
  · split at hrank1
    · obtain ⟨e, _, rfl⟩ := Option.map_eq_some_iff.mp hrank1
      exact pushOwed_served _ e b
    · cases hrank1
  · split at hrank2
    · cases hrank2
      exact admitReply_served p b
    · cases hrank2
  · split at hrank3
    · obtain ⟨i, _, rfl⟩ := Option.map_eq_some_iff.mp hrank3
      exact admitLine_served i b
    · cases hrank3
  · obtain ⟨q, _, rfl⟩ := Option.map_eq_some_iff.mp hrank45
    exact takeAt_served _ _ _ b

theorem offerPlaces_served (p : Port) (c : Cls) (n : Nat) (b : Bridge) : ListsServed b (offerPlaces p c n b) := by
  induction n generalizing b with
  | zero => exact .refl b
  | succ n ih =>
    unfold offerPlaces
    split
    · split
      · exact .refl b
      · next b' hb => exact (admitFirst_served hb).trans (ih b')
    · exact .refl b

theorem offerFreed_served (before : Bridge) (p : Port) (c : Cls) (b : Bridge) :
    ListsServed b (offerFreed before p c b) := by
  unfold offerFreed
  split
  · exact offerPlaces_served p c _ b
  · exact .refl b

theorem offerAll_served (before : Bridge) (p : Port) (b : Bridge) : ListsServed b (offerAll before p b) :=
  ((offerFreed_served before p .reply b).trans (offerFreed_served before p .stream _)).trans
    (offerFreed_served before p .query _)

theorem judge_served (w : WaitingPool) (b : Bridge) : ListsServed b (w.judge b) := by
  have hhead : ListsServed b (if w.head then takeAt w.port w.cls 0 b else b) := by
    split
    · exact takeAt_served _ _ _ b
    · exact .refl b
  unfold WaitingPool.judge
  dsimp only
  generalize (if w.head = true then takeAt w.port w.cls 0 b else b) = judged at hhead
  split
  · exact hhead
  · generalize (if (w.head && headReady b w.port w.cls) = true then _ else _) = j
    split
    · exact hhead.trans (takeAt_served _ _ _ _)
    · exact hhead

/-! ### Trainings and port states (chapter 8) -/

theorem endTraffic_served (p : Port) (b : Bridge) : ListsServed b (endTraffic p b) :=
  (failDrain_served p _).after rfl

theorem beginTraining_served (p : Port) (cause : Cause) (carried : Rate) (b : Bridge) :
    ListsServed b (beginTraining p cause carried b) := by
  refine (endTraffic_served p b).rest ?_
  simp only [beginTraining, beginAttempt, engine_emit, engine_onPort, engine_onTraining, engine_onRecord]

/-- A LINK_RETRAIN that waited stays listed while its training runs. -/
theorem startRetrain_served (p : Port) (b : Bridge) :
    ListsServed b (b.onEngine fun e => { e with deferred := e.deferred.map (Deferred.started p) }) :=
  .of_sublists (.refl _) (Nat.le_of_eq (List.length_map _)) (.refl _)

theorem settleRetrain_served (p : Port) (b : Bridge) : ListsServed b (settleRetrain p b) := by
  unfold settleRetrain
  split
  · exact answerRetrain_served p _ _ b
  split
  · exact (startRetrain_served p b).trans (beginTraining_served p _ _ _)
  · exact .refl b

theorem enterActive_served (p : Port) (w : Width) (b : Bridge) : ListsServed b (enterActive p w b) :=
  (settleRetrain_served p _).after rfl

theorem wakeToActive_served (p : Port) (b : Bridge) : ListsServed b (wakeToActive p b) :=
  (settleRetrain_served p _).after rfl

theorem farPortLost_served (d : Dir) (e : Fin 64) (b : Bridge) : ListsServed b (farPortLost d e b) := by
  unfold farPortLost
  dsimp only
  generalize (if (b.entry d e).pos == .queued then { b.entry d e with pos := .cleared } else b.entry d e) = x
  split
  · exact .refl b
  · exact .of_engine rfl
  · exact .of_engine rfl
  · split
    · exact (freeEntry_served d e _).after rfl
    · exact .refl b

theorem lossAct_served (p : Port) (a : LossAct) (b : Bridge) : ListsServed b (a.carryOut p b) := by
  cases a with
  | record r => exact raise_served r b
  | entryLost d e => exact farPortLost_served d e b
  | donePushed d e => exact pushOwed_served d e b
  | retrainEnds => exact answerRetrain_served p _ _ b
  | replyPushed => exact admitReply_served p b
  | linePushed i =>
    show ListsServed b (if (b.line i).state == .pending then admitLine i b else b)
    split
    · exact admitLine_served i b
    · exact .refl b
  | poolJudged w => exact judge_served w b

theorem goDown_served (p : Port) (b : Bridge) : ListsServed b (goDown p b) :=
  (ListsServed.foldl (lossAct_served p) _ _).after rfl

theorem failAttempt_served (p : Port) (b : Bridge) : ListsServed b (failAttempt p b) := by
  unfold failAttempt
  dsimp only
  split
  · exact .of_engine rfl
  · exact (goDown_served p _).after rfl

theorem emitConfig_engine (p : Port) (ack : Option Seq) (c : ConfigFlit) (b : Bridge) :
    (emitConfig p ack c b).engine = b.engine := by
  cases ack <;> rfl

theorem absorbConfig_engine (p : Port) (c : ConfigFlit) (b : Bridge) : (absorbConfig p c b).engine = b.engine := by
  have hrenumbered : (if c.restart then renumber p b else b).engine = b.engine := by
    split <;> rfl
  unfold absorbConfig
  dsimp only
  generalize (if c.restart = true then renumber p b else b) = r at hrenumbered
  split <;> exact hrenumbered

theorem takeConfig_served (p : Port) (c : ConfigFlit) (b : Bridge) : ListsServed b (takeConfig p c b) := by
  have habsorbed := ListsServed.of_engine (absorbConfig_engine p c b)
  unfold takeConfig
  dsimp only
  split
  · exact habsorbed.trans (failAttempt_served p _)
  · exact habsorbed.trans (enterActive_served p _ _)

theorem enterConfig_served (p : Port) (b : Bridge) : ListsServed b (enterConfig p b) := by
  have hsent : ListsServed b (sendConfig p (b.setLinkState p .config)) :=
    .of_engine (emitConfig_engine p _ _ _)
  unfold enterConfig
  dsimp only
  split
  · exact hsent
  · exact hsent.trans (takeConfig_served p _ _)

/-! ### Resets -/

theorem coldReset_served (unitsel : UnitNo) (leafmgt : Bool) (b : Bridge) :
    ListsServed b (coldResetOf unitsel leafmgt b) :=
  .of_sublists (List.nil_sublist _) (Nat.zero_le _) (List.nil_sublist _)

theorem releaseReset_served (b : Bridge) : ListsServed b (releaseReset b) := by
  have hroot : ListsServed b (beginTraining .root .coldReset .r3_2 { b with rstLow := false }) :=
    (beginTraining_served .root _ _ _).after rfl
  unfold releaseReset
  split
  · exact hroot.trans (beginTraining_served .leaf _ _ _)
  · exact .refl b

theorem atReset_served (forwarding : Bool) (b : Bridge) : ListsServed b (b.onEngine (·.atReset forwarding)) := by
  refine .of_sublists (List.nil_sublist _) (Nat.zero_le _) ?_
  cases forwarding with
  | false => exact List.filter_sublist
  | true => exact List.nil_sublist _

theorem downEntryReset_served (e : Fin 64) (b : Bridge) : ListsServed b (downEntryReset e b) := by
  unfold downEntryReset
  dsimp only
  split
  · exact .of_engine rfl
  · split
    · exact freeEntry_served _ e b
    · exact .of_engine rfl
  · exact .refl b
  · exact .refl b

theorem upEntryReset_served (e : Fin 64) (b : Bridge) : ListsServed b (upEntryReset e b) := by
  unfold upEntryReset
  dsimp only
  split
  · exact .refl b
  · exact .of_engine rfl
  · exact .of_engine rfl
  · exact freeEntry_served _ e b

theorem resetTables_served (forwarding : Bool) (b : Bridge) : ListsServed b (resetTables forwarding b) := by
  unfold resetTables
  split
  · exact (ListsServed.foldl (freeEntry_served .down) _ b).trans (ListsServed.foldl (freeEntry_served .up) _ _)
  · exact (ListsServed.foldl downEntryReset_served _ b).trans (ListsServed.foldl upEntryReset_served _ _)

theorem resetTrainings_served (forwarding : Bool) (b : Bridge) : ListsServed b (resetTrainings forwarding b) := by
  have hroot := beginTraining_served .root .reset .r3_2 b
  unfold resetTrainings
  dsimp only
  split
  · exact (hroot.rest (engine_emit ..)).trans (beginTraining_served .leaf _ _ _)
  · exact hroot

theorem enterFlushRecords_served (rs : List Record) (b : Bridge) : ListsServed b (enterFlushRecords rs b) :=
  (ListsServed.foldl (fun r b => .of_engine (enterRecord_engine b r)) _ _).after rfl

theorem notifyLines_served (forwarding : Bool) (b : Bridge) :
    ListsServed b ((resetLines forwarding b).forLines notifyIfDue) :=
  (ListsServed.foldl notifyIfDue_served _ _).after rfl

theorem resetPort_served (p : Port) (b : Bridge) : ListsServed b (resetPort p b) := .of_engine rfl

theorem rootResetOf_served (b : Bridge) : ListsServed b (rootResetOf b) := by
  have hports : ListsServed b
      (if b.engine.resetForwarding then resetPort .leaf (resetPort .root b) else resetPort .root b) := by
    split
    · exact (resetPort_served .root b).trans (resetPort_served .leaf _)
    · exact resetPort_served .root b
  exact (((((hports.trans (atReset_served _ _)).trans (resetTables_served _ _)).trans
    (resetTrainings_served _ _)).trans (enterFlushRecords_served _ _)).trans (notifyLines_served _ _)).trans
    (offerAll_served b .root _)

/-! ### Packets and flits received -/

theorem judgeFrame_served (p : Port) (f : RxFrame) (b : Bridge) : ListsServed b (judgeFrame p f b) := by
  unfold judgeFrame takeExpected
  dsimp only
  split
  · split
    · split
      · exact (raise_served _ b).trans (beginTraining_served p _ _ _)
      · exact .of_engine rfl
    split <;> exact .of_engine rfl
  · exact (raise_served _ _).after rfl

theorem takeTrain_served (p : Port) (marker : Bool) (rate : Rate) (b : Bridge) :
    ListsServed b (takeTrain p marker rate b) := by
  unfold takeTrain
  split
  · exact beginTraining_served p _ _ b
  · exact beginTraining_served p _ _ b
  · exact beginTraining_served p _ _ b
  · exact beginTraining_served p _ _ b
  · split
    · exact enterConfig_served p b
    · exact .refl b
  · split
    · exact .refl b
    · exact failAttempt_served p b

theorem meetConfig_served (p : Port) (c : ConfigFlit) (b : Bridge) : ListsServed b (meetConfig p c b) := by
  have hkept : ListsServed b (keepConfig p c b) := .of_engine rfl
  unfold meetConfig
  dsimp only
  split
  · split
    · exact hkept.trans (enterConfig_served p _)
    · exact hkept
  · exact takeConfig_served p c b
  all_goals exact .refl b

theorem meetAck_engine (p : Port) (n : Seq) (b : Bridge) : (meetAck p n b).engine = b.engine := by
  unfold meetAck
  split <;> rfl

theorem triggerReplay_served (p : Port) (b : Bridge) : ListsServed b (triggerReplay p b) := by
  unfold triggerReplay
  split
  · exact .of_engine rfl
  · exact (raise_served _ b).trans (beginTraining_served p _ _ _)

theorem takeNak_served (p : Port) (n : Seq) (b : Bridge) : ListsServed b (takeNak p n b) := by
  unfold takeNak
  dsimp only
  split
  · exact (triggerReplay_served p _).after rfl
  split <;> exact .of_engine rfl

theorem takePark_served (p : Port) (b : Bridge) : ListsServed b (takePark p b) := by
  unfold takePark
  split
  · exact (endTraffic_served p _).after rfl
  · exact .of_engine rfl

theorem takeWake_served (p : Port) (b : Bridge) : ListsServed b (takeWake p b) := by
  unfold takeWake
  split
  · exact (wakeToActive_served p _).after rfl
  · exact wakeToActive_served p b
  all_goals exact .refl b

/-! ### The link and sending -/

theorem endSweep_served (p : Port) (passing : Vector (BitVec 64) 16) (b : Bridge) :
    ListsServed b (endSweep p passing b) := by
  unfold endSweep
  dsimp only
  split
  · exact (failAttempt_served p _).after rfl
  split
  · exact (enterConfig_served p _).after rfl
  · exact .of_engine rfl

theorem parkPort_served (p : Port) (b : Bridge) : ListsServed b (parkPort p b) := .of_engine rfl

theorem completePark_served (p : Port) (b : Bridge) : ListsServed b (completePark p b) := by
  unfold completePark
  split
  · exact .refl b
  · exact ((eraseDeferred_served b _).trans (parkPort_served p _)).trans (deliverWith_served push_served _ _ _ _ _ _)

theorem repeatConfig_engine (p : Port) (b : Bridge) : (repeatConfig p b).engine = b.engine := by
  unfold repeatConfig
  split
  · rfl
  · exact emitConfig_engine p _ _ _

theorem sendAnswer_engine (p : Port) (b : Bridge) : (sendAnswer p b).engine = b.engine := by
  unfold sendAnswer
  split
  · rfl
  split <;> rfl

theorem sendReturns_engine (p : Port) (b : Bridge) : (sendReturns p b).engine = b.engine := by
  unfold sendReturns
  split <;> rfl

theorem sendDue_engine (p : Port) (b : Bridge) : (sendDue p b).engine = b.engine := by
  unfold sendDue
  dsimp only
  split
  · split
    · exact (sendReturns_engine p _).trans (sendAnswer_engine p _)
    · exact (sendAnswer_engine p _).trans (sendReturns_engine p _)
  · exact (sendReturns_engine p _).trans (sendAnswer_engine p b)

theorem queryTransmitted_engine (m : Mark) (b : Bridge) : (queryTransmitted m b).engine = b.engine := by
  unfold queryTransmitted
  dsimp only
  split <;> rfl

theorem sendHead_served (p : Port) (c : Cls) (x : Queued) (rest : List Queued) (b : Bridge) :
    ListsServed b (sendHead p c x rest b) := by
  have hdue := ListsServed.of_engine (sendDue_engine p b)
  unfold sendHead
  dsimp only
  refine ListsServed.trans ?_ (offerFreed_served b p c _)
  split
  · exact hdue.rest rfl
  · exact hdue.rest (queryTransmitted_engine _ _)

theorem arbitrate_served (p : Port) (b : Bridge) : ListsServed b (arbitrate p b) := by
  unfold arbitrate
  split
  · split
    · exact .refl b
    split
    · exact .refl b
    · exact sendHead_served p _ _ _ b
  · exact .refl b

theorem resend_served (p : Port) (b : Bridge) : ListsServed b (resend p b) := by
  unfold resend
  split
  · exact .refl b
  split
  · exact .refl b
  · exact (ListsServed.of_engine (sendDue_engine p b)).rest rfl

/-! ### Timers -/

theorem tick_engine (b : Bridge) : b.tick.engine = b.engine := by
  unfold Bridge.tick
  split <;> rfl

theorem passDeadline_served (d : Dir) (e : Fin 64) (b : Bridge) : ListsServed b (passDeadline d e b) :=
  (raise_served _ _).after rfl

theorem passQuarantine_served (d : Dir) (e : Fin 64) (b : Bridge) : ListsServed b (passQuarantine d e b) := by
  unfold passQuarantine
  dsimp only
  split
  · exact (freeEntry_served d e b).trans (raise_served _ _)
  · exact .of_engine rfl
  · exact freeEntry_served d e b

/-! ### The executed head (10 R164, R167 to R170) -/

theorem free_iff (e : Engine) : e.free = true ↔ ∀ r ∈ e.waiting, r.immediate = false := by
  simp [Engine.free]

/-- An effect leaves the lists to the settling of the head, which may defer the command where a place is free. -/
def Settles (b : Bridge) : Verdict → Prop
  | .answer _ _ _ b' => ListsServed b b'
  | .defer _ b' => b.engine.deferredRoom = true ∧ ListsServed b b'

theorem settles_refuse (status : Status) (b : Bridge) : Settles b (refuse status b) := ListsServed.refl b

theorem settles_done {b b' : Bridge} (data : List Byte) (h : ListsServed b b') : Settles b (done data b') := h

/-- Whatever the head and the part, the effect of the row settles. -/
def EffectSettles (effect : Command → Bridge → Verdict) : Prop := ∀ c b, Settles b (effect c b)

/-- The head's own reply waits where no immediate reply does. -/
theorem awaitHead_engineInv {b : Bridge} (h : EngineInv b) (hnone : b.engine.waiting.filter (·.immediate) = [])
    {r : MgmtReply} (hkind : r.pkt.kind = .done) :
    EngineInv (b.onEngine fun e => { e with waiting := e.waiting ++ [r] }) := by
  obtain ⟨hqueue, hdeferred, -, hdone⟩ := h
  refine ⟨hqueue, hdeferred, ?_, fun q hq => ?_⟩
  · show ((b.engine.waiting ++ [r]).filter (·.immediate)).length ≤ 1
    rw [List.filter_append, hnone]
    exact List.length_filter_le _ [r]
  · rcases List.mem_append.mp hq with hold | hnew
    · exact hdone q hold
    · rwa [List.mem_singleton.mp hnew]

theorem noImmediate_of_free {b b' : Bridge} (hfree : b.engine.free = true) (hs : ListsServed b b') :
    b'.engine.waiting.filter (·.immediate) = [] := by
  have hnone : b.engine.waiting.filter (·.immediate) = [] :=
    List.filter_eq_nil_iff.mpr fun r hr => by simp [(free_iff _).mp hfree r hr]
  have hshort := hs.immediate
  rw [hnone] at hshort
  exact List.eq_nil_of_length_eq_zero (Nat.le_zero.mp hshort)

theorem deferHead_engineInv {b b' : Bridge} (h : EngineInv b) (hroom : b.engine.deferredRoom = true)
    (hs : ListsServed b b') (d : Deferred) :
    EngineInv (b'.onEngine fun e => { e with queue := e.queue.tail, deferred := e.deferred ++ [d] }) := by
  obtain ⟨hqueue, -, himmediate, hdone⟩ := hs.engineInv h
  refine ⟨?_, ?_, himmediate, hdone⟩
  · exact Nat.le_trans (List.tail_sublist _).length_le hqueue
  · have hplace : b.engine.deferred.length < Config.deferredPlaces := by simpa [Engine.deferredRoom] using hroom
    show (b'.engine.deferred ++ [d]).length ≤ Config.deferredPlaces
    rw [List.length_append, List.length_singleton]
    exact Nat.lt_of_le_of_lt hs.deferred hplace

theorem settle_eq_deliver (status : Status) (data : List Byte) (wakes : Bool) (b : Bridge) (c : Command) :
    (Verdict.answer status data wakes b).settle c = deliverWith push (headReply b c status data) wakes b := rfl

/-- A free engine settles its head: the reply is pushed, or waits as the one immediate reply, or the command joins the
deferred list in a free place. -/
theorem settle_engineInv {b : Bridge} {v : Verdict} (h : EngineInv b) (hfree : b.engine.free = true)
    (hv : Settles b v) (c : Command) : EngineInv (v.settle c) := by
  cases v with
  | answer status data wakes b' =>
    have hs : ListsServed b b' := hv
    rcases deliverWith_pushes_or_waits push (headReply b' c status data) wakes b' with hpushed | hwaits
    · rw [settle_eq_deliver, hpushed]
      exact ((replied_served b' _).trans (push_served _ _)).engineInv (hs.engineInv h)
    · rw [settle_eq_deliver, hwaits]
      exact awaitHead_engineInv (hs.engineInv h) (noImmediate_of_free hfree hs) rfl
  | defer op b' => exact deferHead_engineInv h hv.1 hv.2 _

theorem judge_settles (req : Nat) {effect : Command → Bridge → Verdict} (he : EffectSettles effect) :
    EffectSettles (judge req effect) := by
  intro c b
  unfold judge
  split
  · exact settles_refuse _ b
  split
  · exact settles_refuse _ b
  split
  · exact settles_refuse _ b
  · exact he c b

theorem runHead_engineInv (code : BitVec 6) (req : Nat) {effect : Command → Bridge → Verdict}
    (he : EffectSettles effect) {b : Bridge} (h : EngineInv b) : EngineInv (runHead code req effect b) := by
  unfold runHead
  split
  · exact h
  · next c _ _ =>
    split
    · next hready => exact settle_engineInv h (Bool.and_eq_true_iff.mp hready).1 (judge_settles req he c b) c
    · exact h

theorem runUnknown_engineInv {b : Bridge} (h : EngineInv b) : EngineInv (runUnknown b) := by
  unfold runUnknown
  split
  · exact h
  · next c _ _ =>
    split
    · next hready => exact settle_engineInv h (Bool.and_eq_true_iff.mp hready).1 (settles_refuse .malformed b) c
    · exact h

/-! ### The effects of the commands -/

theorem identify_settles : EffectSettles identifyEffect := fun _ b => settles_done _ (.refl b)

theorem accessSet_settles : EffectSettles accessSetEffect := by
  intro c b
  unfold accessSetEffect
  split
  · exact settles_done _ (.of_sublists (.refl _) (Nat.le_refl _) (.refl _))
  · exact settles_refuse _ b

theorem portStatus_settles : EffectSettles portStatusEffect := by
  intro c b
  unfold portStatusEffect
  split
  · exact settles_refuse _ b
  · exact settles_done _ (.refl b)

theorem writeSettings_engine {c : Command} {ports : List Port} {b b' : Bridge}
    (hb : writeSettings c ports b = some b') : b'.engine = b.engine := by
  induction ports generalizing b with
  | nil => cases hb; rfl
  | cons p ps ih =>
    unfold writeSettings at hb
    split at hb
    · cases hb
    · exact (ih hb).trans (engine_onRecord ..)

theorem linkSet_settles : EffectSettles linkSetEffect := by
  intro c b
  unfold linkSetEffect
  split
  · exact settles_refuse _ b
  · next b' hb =>
    obtain ⟨ps, _, hw⟩ := Option.bind_eq_some_iff.mp hb
    exact settles_done _ (.of_engine (writeSettings_engine hw))

theorem linkRetrain_settles : EffectSettles linkRetrainEffect := by
  intro c b
  unfold linkRetrainEffect
  split
  · exact settles_refuse _ b
  unfold retrainPort
  split
  · exact settles_refuse _ b
  split
  · exact settles_refuse _ b
  · next hroom =>
    have hplace : b.engine.deferredRoom = true := by simpa using hroom
    split
    · exact ⟨hplace, beginTraining_served _ _ _ b⟩
    · exact ⟨hplace, beginTraining_served _ _ _ b⟩
    · exact ⟨hplace, beginTraining_served _ _ _ b⟩
    all_goals exact ⟨hplace, .refl b⟩

theorem linkPark_settles : EffectSettles linkParkEffect := by
  intro c b
  unfold linkParkEffect
  split
  · exact settles_refuse _ b
  unfold parkCommand
  split
  · exact settles_refuse _ b
  split
  · exact parkPort_served _ b
  split
  · next hroom => exact ⟨hroom, .refl b⟩
  · exact settles_refuse _ b

theorem linkWake_settles : EffectSettles linkWakeEffect := by
  intro c b
  unfold linkWakeEffect
  split
  · exact settles_refuse _ b
  split
  · exact settles_done _ (.of_engine rfl)
  · exact settles_refuse _ b

theorem laneRead_settles : EffectSettles laneReadEffect := by
  intro c b
  unfold laneReadEffect
  split
  · exact settles_done _ (.refl b)
  · exact settles_refuse _ b

theorem writePlan_served (plan : PerClass (Amount Nat)) (ports : List Port) (b : Bridge) :
    ListsServed b (writePlan plan ports b) :=
  ListsServed.foldl (fun p _ => .of_engine (engine_onPort _ p _)) ports b

theorem bufferPlanSet_settles : EffectSettles bufferPlanSetEffect := by
  intro c b
  unfold bufferPlanSetEffect
  split
  · exact settles_refuse _ b
  split
  · exact settles_refuse _ b
  · exact settles_done _ (writePlan_served _ _ b)

theorem arbiterSet_settles : EffectSettles arbiterSetEffect := by
  intro c b
  unfold arbiterSetEffect
  split
  · exact settles_done _ (ListsServed.foldl (f := writePriorities c) (fun _ _ => .of_engine rfl) _ b)
  · exact settles_refuse _ b

theorem windowLoad_settles : EffectSettles windowLoadEffect := by
  intro c b
  unfold windowLoadEffect
  split
  · exact settles_done _ (.of_engine rfl)
  · exact settles_done _ (.of_engine rfl)
  all_goals exact settles_refuse _ b

theorem windowActivate_settles : EffectSettles windowActivateEffect := by
  intro c b
  unfold windowActivateEffect
  split
  · exact settles_refuse _ b
  dsimp only
  split
  · split
    · exact settles_done _ (.of_engine rfl)
    · exact settles_refuse _ b
  all_goals exact settles_refuse _ b

theorem windowRetire_settles : EffectSettles windowRetireEffect := by
  intro c b
  unfold windowRetireEffect
  split
  · exact settles_refuse _ b
  dsimp only
  split
  · split
    · exact settles_done _ (.of_engine rfl)
    split
    · next hroom => exact ⟨hroom, .of_engine rfl⟩
    · exact settles_refuse _ b
  all_goals exact settles_refuse _ b

theorem windowDiscard_settles : EffectSettles windowDiscardEffect := by
  intro c b
  unfold windowDiscardEffect
  split
  · exact settles_refuse _ b
  split
  · exact settles_done _ (.of_engine rfl)
  · exact settles_refuse _ b

theorem windowRead_settles : EffectSettles windowReadEffect := by
  intro c b
  unfold windowReadEffect
  split
  · exact settles_refuse _ b
  · exact settles_done _ (.refl b)

theorem groupSet_settles : EffectSettles groupSetEffect := by
  intro c b
  unfold groupSetEffect
  split
  · exact settles_refuse _ b
  · exact settles_done _ (.of_engine rfl)

theorem groupRead_settles : EffectSettles groupReadEffect := by
  intro c b
  unfold groupReadEffect
  split
  · exact settles_refuse _ b
  · exact settles_done _ (.refl b)

theorem missPolicySet_settles : EffectSettles missPolicySetEffect := by
  intro c b
  unfold missPolicySetEffect
  split
  · exact settles_done _ (.of_engine rfl)
  · exact settles_refuse _ b

theorem timerSet_settles : EffectSettles timerSetEffect := by
  intro c b
  unfold timerSetEffect
  split
  · exact settles_done _ (.of_engine rfl)
  · exact settles_refuse _ b

theorem queryRead_settles : EffectSettles queryReadEffect := by
  intro c b
  unfold queryReadEffect
  split
  · exact settles_done _ (.refl b)
  · exact settles_refuse _ b

theorem querySummary_settles : EffectSettles querySummaryEffect := fun _ b => settles_done _ (.refl b)

theorem setLine_notifyIfDue_served (b : Bridge) (i : Fin 64) (l : Line) :
    ListsServed b (notifyIfDue i (b.setLine i l)) :=
  (notifyIfDue_served i _).after rfl

theorem setLine_cancelNotification_served (b : Bridge) (i : Fin 64) (l : Line) :
    ListsServed b (cancelNotification i (b.setLine i l)) :=
  (cancelNotification_served i _).after rfl

theorem signalConfig_settles : EffectSettles signalConfigEffect := by
  intro c b
  unfold signalConfigEffect
  split
  · exact settles_refuse _ b
  split
  · exact settles_refuse _ b
  · refine settles_done _ ?_
    split
    · exact setLine_notifyIfDue_served b _ _
    · exact setLine_cancelNotification_served b _ _

theorem signalMask_settles : EffectSettles signalMaskEffect := by
  intro c b
  unfold signalMaskEffect
  split
  · exact settles_done _ (setLine_notifyIfDue_served b _ _)
  · exact settles_done _ (setLine_cancelNotification_served b _ _)
  · exact settles_refuse _ b

theorem signalServiced_settles : EffectSettles signalServicedEffect := by
  intro c b
  unfold signalServicedEffect
  split
  · exact settles_refuse _ b
  split
  · exact settles_done _ (setLine_notifyIfDue_served b _ _)
  · exact settles_refuse _ b

theorem signalRead_settles : EffectSettles signalReadEffect := by
  intro c b
  unfold signalReadEffect
  split
  · exact settles_refuse _ b
  · exact settles_done _ (.refl b)

theorem deassertAlert_served (b : Bridge) : ListsServed b (deassertAlert b) :=
  setLine_cancelNotification_served b 0 _

theorem captureRead_settles : EffectSettles captureReadEffect := by
  intro c b
  unfold captureReadEffect
  dsimp only
  split
  · exact settles_done _ (.refl b)
  · exact settles_done _ ((deassertAlert_served _).after rfl)
  · exact settles_done _ (.of_engine rfl)

theorem captureClear_settles : EffectSettles captureClearEffect := by
  intro c b
  unfold captureClearEffect
  refine settles_done _ ?_
  split
  · exact .of_engine rfl
  · exact (deassertAlert_served _).after rfl

/-! ### The step -/

section
variable {s : State}

theorem event_engineInv {f : Bridge → Bridge} (hf : ∀ b, EngineInv b → EngineInv (f b)) (h : EngineInv s.bridge) :
    EngineInv (s.event f).bridge := by
  unfold State.event
  rw [bridge_onBridge]
  split
  · exact h
  · exact hf _ h

theorem event_served {f : Bridge → Bridge} (hf : ∀ b, ListsServed b (f b)) (h : EngineInv s.bridge) :
    EngineInv (s.event f).bridge :=
  event_engineInv (fun b => (hf b).engineInv) h

/-- An event that acts only where its condition holds (log 1). -/
theorem event_ite_served {cond : Bridge → Prop} [DecidablePred cond] {f : Bridge → Bridge}
    (hf : ∀ b, ListsServed b (f b)) (h : EngineInv s.bridge) :
    EngineInv (s.event fun b => if cond b then f b else b).bridge := by
  refine event_served (fun b => ?_) h
  split
  · exact hf b
  · exact .refl b

theorem runHead_event {code : BitVec 6} {req : Nat} {effect : Command → Bridge → Verdict} (he : EffectSettles effect)
    (h : EngineInv s.bridge) : EngineInv (s.event (runHead code req effect)).bridge :=
  event_engineInv (fun _ => runHead_engineInv code req he) h

end

/-- The row of a command acts on the part, or leaves it, and keeps the engine's lists within their bounds. -/
theorem exec_keepsEngine (i : Instr) (s : State) (h : EngineInv s.bridge) :
    ∃ t, exec i s = .next t ∧ EngineInv t.bridge := by
  cases i with
  | coldReset unitsel leafmgt => exact ⟨_, rfl, (coldReset_served unitsel leafmgt s.bridge).engineInv h⟩
  | rstNRelease => exact ⟨_, rfl, (releaseReset_served s.bridge).engineInv h⟩
  | rootReset f => exact ⟨_, rfl, event_ite_served rootResetOf_served h⟩
  | resetFlitAtLeaf f =>
    exact ⟨_, rfl, event_ite_served (fun _ => (beginTraining_served .leaf _ _ _).after rfl) h⟩
  | packetReceived p f => exact ⟨_, rfl, event_ite_served (judgeFrame_served p f) h⟩
  | partnerTrainDetected p f =>
    refine ⟨_, rfl, event_served (fun b => ?_) h⟩
    split
    · exact takeTrain_served p _ _ b
    · exact .refl b
  | configReceived p f =>
    refine ⟨_, rfl, event_served (fun b => ?_) h⟩
    split
    · exact meetConfig_served p _ b
    · exact .refl b
  | ackReceived p f =>
    refine ⟨_, rfl, event_served (fun b => ?_) h⟩
    split
    · exact .of_engine (meetAck_engine p _ b)
    · exact .refl b
  | nakReceived p f =>
    refine ⟨_, rfl, event_served (fun b => ?_) h⟩
    split
    · split
      · exact takeNak_served p _ b
      · exact .refl b
    · exact .refl b
  | creditReceived p f =>
    refine ⟨_, rfl, event_served (fun b => ?_) h⟩
    split
    · split
      · exact .of_engine rfl
      · exact .refl b
    · exact .refl b
  | parkReceived p f => exact ⟨_, rfl, event_ite_served (takePark_served p) h⟩
  | wakeReceived p f => exact ⟨_, rfl, event_ite_served (takeWake_served p) h⟩
  | idleReceived p f => exact ⟨_, rfl, h⟩
  | sweepEnds p passing => exact ⟨_, rfl, event_ite_served (endSweep_served p passing) h⟩
  | attemptBoundPasses p => exact ⟨_, rfl, event_ite_served (failAttempt_served p) h⟩
  | wakeBoundPasses p => exact ⟨_, rfl, event_ite_served (beginTraining_served p _ _) h⟩
  | parkDrainBoundPasses p => exact ⟨_, rfl, event_ite_served (failDrain_served p) h⟩
  | parkDrainCompletes p => exact ⟨_, rfl, event_ite_served (completePark_served p) h⟩
  | replayTimerExpires p => exact ⟨_, rfl, event_ite_served (triggerReplay_served p) h⟩
  | ackBoundPasses p => exact ⟨_, rfl, event_ite_served (fun _ => .of_engine rfl) h⟩
  | creditRepeatDue p => exact ⟨_, rfl, event_ite_served (fun _ => .of_engine rfl) h⟩
  | configRepeat p => exact ⟨_, rfl, event_ite_served (fun b => .of_engine (repeatConfig_engine p b)) h⟩
  | wakeRepeat p => exact ⟨_, rfl, event_ite_served (fun _ => .of_engine rfl) h⟩
  | arbiterDecision p => exact ⟨_, rfl, event_served (arbitrate_served p) h⟩
  | replayResend p => exact ⟨_, rfl, event_ite_served (resend_served p) h⟩
  | ackSent p => exact ⟨_, rfl, event_ite_served (fun _ => .of_engine rfl) h⟩
  | nakSent p => exact ⟨_, rfl, event_ite_served (fun _ => .of_engine rfl) h⟩
  | creditFlitSent p => exact ⟨_, rfl, event_ite_served (fun _ => .of_engine rfl) h⟩
  | takePut p => exact ⟨_, rfl, event_served (takeHead_served p .stream _) h⟩
  | takeGetSet p => exact ⟨_, rfl, event_served (takeHead_served p .query _) h⟩
  | takeManage p => exact ⟨_, rfl, event_served (takeHead_served p .query _) h⟩
  | managementBypass p =>
    refine ⟨_, rfl, event_served (fun b => ?_) h⟩
    split
    · exact .refl b
    · exact takeAt_served p .query _ b
  | takeSignal => exact ⟨_, rfl, event_served (takeHead_served .leaf .stream _) h⟩
  | takeReply p => exact ⟨_, rfl, event_served (takeHead_served p .reply _) h⟩
  | takeMalformed p c =>
    refine ⟨_, rfl, event_served (fun b => ?_) h⟩
    split
    · exact .refl b
    split
    · exact takeAt_served p c 0 b
    · exact .refl b
  | deadlinePasses d e => exact ⟨_, rfl, event_ite_served (passDeadline_served d e) h⟩
  | quarantineEndPasses d e => exact ⟨_, rfl, event_ite_served (passQuarantine_served d e) h⟩
  | returningDonePushed d e => exact ⟨_, rfl, event_ite_served (pushOwed_served d e) h⟩
  | notificationAdmitted =>
    refine ⟨_, rfl, event_served (fun b => ?_) h⟩
    split
    · exact .refl b
    split
    · exact admitLine_served _ b
    · exact .refl b
  | managementReplyAdmitted p => exact ⟨_, rfl, event_ite_served (admitReply_served p) h⟩
  | unknownCommand => exact ⟨_, rfl, event_engineInv (fun _ => runUnknown_engineInv) h⟩
  | identify => exact ⟨_, rfl, runHead_event identify_settles h⟩
  | accessSet => exact ⟨_, rfl, runHead_event accessSet_settles h⟩
  | portStatus => exact ⟨_, rfl, runHead_event portStatus_settles h⟩
  | linkSet => exact ⟨_, rfl, runHead_event linkSet_settles h⟩
  | linkRetrain => exact ⟨_, rfl, runHead_event linkRetrain_settles h⟩
  | linkPark => exact ⟨_, rfl, runHead_event linkPark_settles h⟩
  | linkWake => exact ⟨_, rfl, runHead_event linkWake_settles h⟩
  | laneRead => exact ⟨_, rfl, runHead_event laneRead_settles h⟩
  | bufferPlanSet => exact ⟨_, rfl, runHead_event bufferPlanSet_settles h⟩
  | arbiterSet => exact ⟨_, rfl, runHead_event arbiterSet_settles h⟩
  | windowLoad => exact ⟨_, rfl, runHead_event windowLoad_settles h⟩
  | windowActivate => exact ⟨_, rfl, runHead_event windowActivate_settles h⟩
  | windowRetire => exact ⟨_, rfl, runHead_event windowRetire_settles h⟩
  | windowDiscard => exact ⟨_, rfl, runHead_event windowDiscard_settles h⟩
  | windowRead => exact ⟨_, rfl, runHead_event windowRead_settles h⟩
  | groupSet => exact ⟨_, rfl, runHead_event groupSet_settles h⟩
  | groupRead => exact ⟨_, rfl, runHead_event groupRead_settles h⟩
  | missPolicySet => exact ⟨_, rfl, runHead_event missPolicySet_settles h⟩
  | timerSet => exact ⟨_, rfl, runHead_event timerSet_settles h⟩
  | queryRead => exact ⟨_, rfl, runHead_event queryRead_settles h⟩
  | querySummary => exact ⟨_, rfl, runHead_event querySummary_settles h⟩
  | signalConfig => exact ⟨_, rfl, runHead_event signalConfig_settles h⟩
  | signalMask => exact ⟨_, rfl, runHead_event signalMask_settles h⟩
  | signalServiced => exact ⟨_, rfl, runHead_event signalServiced_settles h⟩
  | signalRead => exact ⟨_, rfl, runHead_event signalRead_settles h⟩
  | captureRead => exact ⟨_, rfl, runHead_event captureRead_settles h⟩
  | captureClear => exact ⟨_, rfl, runHead_event captureClear_settles h⟩

/-- Settles O57: a step is one µs of the time base, or the front command's row. -/
theorem stepKeepsEngine : Obligations.StepKeepsEngine := by
  unfold Obligations.StepKeepsEngine
  intro s t h hstep
  unfold step at hstep
  split at hstep
  · cases hstep
    exact (ListsServed.of_engine (tick_engine s.bridge)).engineInv h
  · next c rest _ =>
    obtain ⟨u, hexec, hu⟩ := exec_keepsEngine c { s with pending := rest } h
    rw [hexec] at hstep
    cases hstep
    exact hu

end Sys2Proof.EngineLists
end

section
/-! The engine's judgement of the head before its execution (O49): rows 1 to 4 of 10 Table 10-3, in their order. -/

namespace Sys2Proof.HeadRefusals

open Sys2Proof.Machine Sys2Proof.Safety Sys2Proof.Laws
open Sys2Proof.EngineLists (free_iff)

/-! ### The operand count and the known codes (10 R165, R167) -/

theorem count_eq (c : Command) : c.count = if c.blocks = 0 then 0 else (c.payload.getD 0 0).toNat := by
  simp only [Command.count, beq_iff_eq]

theorem countOutOfRange_iff (c : Command) :
    c.countOutOfRange = true ↔ 252 < c.count ∨ 64 * c.blocks < 4 + c.count := by
  simp [Command.countOutOfRange]

theorem mem_knownCodes_iff (code : BitVec 6) : code ∈ knownCodes ↔ code.toNat ∈ knownCodes.map BitVec.toNat := by
  refine ⟨List.mem_map_of_mem, fun h => ?_⟩
  obtain ⟨known, hmem, hsame⟩ := List.mem_map.mp h
  rwa [← BitVec.eq_of_toNat_eq hsame]

/-! ### The rows of Table 10-3 before the owning block -/

section
variable {req : Nat} {effect : Command → Bridge → Verdict} {c : Command} (b : Bridge)

theorem judge_outOfRange (hcount : c.countOutOfRange = true) : judge req effect c b = refuse .range b := if_pos hcount

theorem judge_denied (hcount : c.countOutOfRange = false) (hcode : c.code = 1) (hport : c.port = .leaf) :
    judge req effect c b = refuse .denied b := by
  simp [judge, hcount, hcode, hport]

theorem judge_tooFew (hcount : c.countOutOfRange = false) (haccess : ¬(c.code = 1 ∧ c.port = .leaf))
    (hfew : c.count < req) : judge req effect c b = refuse .range b := by
  rw [judge, if_neg (by simp [hcount]), if_neg haccess, if_pos hfew]

end

/-! ### The head of a free engine -/

section
variable {s : State} {c : Command} (hrun : running s) (hhead : s.bridge.engine.queue.head? = some c)
  (hfree : s.bridge.engine.free = true)
include hrun hhead hfree

theorem event_runHead_refused {code : BitVec 6} {req : Nat} {effect : Command → Bridge → Verdict} {status : Status}
    (hcode : c.code = code) (hjudge : judge req effect c s.bridge = refuse status s.bridge) :
    s.event (runHead code req effect) = answered s c status [] s.bridge := by
  obtain ⟨rest, hqueue⟩ := List.head?_eq_some_iff.mp hhead
  rw [event_high s _ hrun, ← settle_refuse, ← hjudge]
  simp [State.onBridge, runHead, hqueue, hfree, hcode]

theorem exec_unknownCommand_refused (hunknown : c.code ∉ knownCodes) :
    exec .unknownCommand s = .next (answered s c .malformed [] s.bridge) := by
  obtain ⟨rest, hqueue⟩ := List.head?_eq_some_iff.mp hhead
  rw [exec, execUnknownCommand, event_high s _ hrun, ← settle_refuse]
  simp [State.onBridge, runUnknown, hqueue, hfree, hunknown]

/-- The row of a known command refuses its head for the operand count before the command's effect. -/
theorem row_refuses_count {row : Instr} {code : BitVec 6} {req : Nat} {effect : Command → Bridge → Verdict}
    (hrow : exec row s = .next (s.event (runHead code req effect))) (hcode : c.code = code) :
    (c.countOutOfRange = true → exec row s = .next (answered s c .range [] s.bridge)) ∧
      (c.countOutOfRange = false → ¬(code = 1 ∧ c.port = .leaf) → c.count < req →
        exec row s = .next (answered s c .range [] s.bridge)) := by
  subst hcode
  rw [hrow]
  refine ⟨fun hcount => ?_, fun hcount haccess hfew => ?_⟩
  · rw [event_runHead_refused hrun hhead hfree rfl (judge_outOfRange s.bridge hcount)]
  · rw [event_runHead_refused hrun hhead hfree rfl (judge_tooFew s.bridge hcount haccess hfew)]

end

/-- Settles O49: an unknown code, ACCESS_SET from Leaf, and the operand count in each of the 27 rows. -/
theorem engineRefusesBeforeExecution : Obligations.EngineRefusesBeforeExecution := by
  unfold Obligations.EngineRefusesBeforeExecution
  refine ⟨fun c => ⟨count_eq c, countOutOfRange_iff c⟩, free_iff, mem_knownCodes_iff, fun s c hrun hhead hfree => ?_⟩
  intro refused row
  have hrow {i : Instr} {code : BitVec 6} {req : Nat} {effect : Command → Bridge → Verdict}
      (h : exec i s = .next (s.event (runHead code req effect))) : row code req i :=
    row_refuses_count hrun hhead hfree h
  refine ⟨exec_unknownCommand_refused hrun hhead hfree, fun hcode hcount hport => ?_, hrow rfl, hrow rfl, hrow rfl,
    hrow rfl, hrow rfl, hrow rfl, hrow rfl, hrow rfl, hrow rfl, hrow rfl, hrow rfl, hrow rfl, hrow rfl, hrow rfl,
    hrow rfl, hrow rfl, hrow rfl, hrow rfl, hrow rfl, hrow rfl, hrow rfl, hrow rfl, hrow rfl, hrow rfl, hrow rfl,
    hrow rfl, hrow rfl⟩
  have hjudge : judge 2 accessSetEffect c s.bridge = refuse .denied s.bridge := judge_denied s.bridge hcount hcode hport
  exact congrArg Host.Outcome.next (event_runHead_refused hrun hhead hfree hcode hjudge)

end Sys2Proof.HeadRefusals
end

section
/-! The commands that only read (O41): the bytes of their reply data, and the object each names. -/

namespace Sys2Proof.ReadCommands

open Sys2Proof.Machine Sys2Proof.Safety Sys2Proof.Laws
open Sys2Proof.WindowTable (exec_of_effect slot?_eq slot?_none)

/-! ### Bytes of the reply data -/

theorem flagByte_eq (x : Bool) : flagByte x = BitVec.ofNat 8 x.toNat := by cases x <;> rfl

theorem portCode_eq (p : Port) : Port.code p = if p = .root then BitVec.ofNat 8 0 else BitVec.ofNat 8 1 := by
  cases p <;> rfl

/-- The flag byte of a window record, bit by bit from the lowest (02 Table 2-2). -/
theorem windowFlags_eq (w : WindowRecord) : w.flags = BitVec.ofNat 8
    ((w.direction == .up).toNat + 2 * w.readAllowed.toNat + 4 * w.writeAllowed.toNat + 8 * w.earlyAck.toNat +
      16 * w.specAllowed.toNat + 32 * w.translation.isSome.toNat) := by
  have packed : ∀ d r w e s t : Bool,
      ((0 : BitVec 2) ++ BitVec.ofBool t ++ BitVec.ofBool s ++ BitVec.ofBool e ++ BitVec.ofBool w ++ BitVec.ofBool r ++
        BitVec.ofBool d : BitVec 8) =
      BitVec.ofNat 8 (d.toNat + 2 * r.toNat + 4 * w.toNat + 8 * e.toNat + 16 * s.toNat + 32 * t.toNat) := by decide
  exact packed ..

/-- The three 2-bit codes and the flag in byte 2 of QUERY_READ's reply (04 Table 4-4). -/
theorem stateByte_eq (x : Entry) : x.stateByte = BitVec.ofNat 8
    (x.state.code.toNat + 4 * x.pos.code.toNat + 16 * x.kind.code.toNat + 64 * x.replySeen.toNat) := by
  have packed : ∀ (s p k : BitVec 2) (r : Bool), ((0 : BitVec 1) ++ BitVec.ofBool r ++ k ++ p ++ s : BitVec 8) =
      BitVec.ofNat 8 (s.toNat + 4 * p.toNat + 16 * k.toNat + 64 * r.toNat) := by decide
  exact packed ..

/-- Byte 1 of SIGNAL_READ's reply (09 Table 9-3). -/
theorem lineFlags_eq (l : Line) :
    ((0 : BitVec 2) ++ l.state.code ++ BitVec.ofBool l.lastUnit.isSome ++ BitVec.ofBool l.level ++
      BitVec.ofBool l.masked ++ BitVec.ofBool l.enabled : BitVec 8) = BitVec.ofNat 8
    (l.enabled.toNat + 2 * l.masked.toNat + 4 * l.level.toNat + 8 * l.lastUnit.isSome.toNat +
      16 * l.state.code.toNat) := by
  have packed : ∀ (e m l u : Bool) (s : BitVec 2),
      ((0 : BitVec 2) ++ s ++ BitVec.ofBool u ++ BitVec.ofBool l ++ BitVec.ofBool m ++ BitVec.ofBool e : BitVec 8) =
      BitVec.ofNat 8 (e.toNat + 2 * m.toNat + 4 * l.toNat + 8 * u.toNat + 16 * s.toNat) := by decide
  exact packed ..

/-- A width as a number of lanes, 0 where there is none yet (08 Table 8-6). -/
theorem widthByte_eq (w : Option Width) :
    widthByte w = match w with | none => 0 | some w => BitVec.ofNat 8 w.lanes := by
  cases w <;> rfl

/-- The listed link command of a port (08 Table 8-6, byte 25). -/
theorem linkCode_eq (e : Engine) (p : Port) : e.linkCode p = match e.deferred.find? (·.links p) with
    | none => 0
    | some d => match d.op with | .retire _ => 0 | .retrain _ false => 1 | .retrain _ true => 2 | .park _ _ => 3 := by
  unfold Engine.linkCode
  cases e.deferred.find? (·.links p) with
  | none => rfl
  | some d =>
    obtain ⟨_, _, _, op⟩ := d
    cases op with
    | retire _ => rfl
    | retrain _ running => cases running <;> rfl
    | park _ _ => rfl

theorem slotStateCode_eq (x : SlotState) :
    x.code = match x with | .free => 0 | .staged => 1 | .live => 2 | .draining => 3 := by
  cases x <;> rfl

theorem entryStateCode_toNat (x : EntryState) :
    x.code.toNat = match x with | .free => 0 | .waiting => 1 | .returning => 2 | .quarantine => 3 := by
  cases x <;> rfl

theorem queryPosCode_toNat (x : QueryPos) :
    x.code.toNat = match x with | .queued => 0 | .sent => 1 | .cleared => 2 := by
  cases x <;> rfl

theorem queryKindCode_toNat (x : QueryKind) :
    x.code.toNat = match x with | .get => 0 | .set => 1 | .manage => 2 := by
  cases x <;> rfl

theorem lineStateCode_toNat (x : LineState) :
    x.code.toNat = match x with | .idle => 0 | .pending => 1 | .outstanding => 2 := by
  cases x <;> rfl

/-- The window slot an entry records, under its presence bit (04 Table 4-4). -/
theorem slotByte_eq (slot : Option (Fin 32)) :
    present 5 (slot.map (·.val)) = match slot with | none => 0 | some i => BitVec.ofNat 8 (32 + i) := by
  cases slot <;> rfl

/-- The next part of an entry, under its presence bit (04 Table 4-4). -/
theorem nextPartByte_eq (part : Option (Fin 4)) :
    present 2 (part.map (·.val)) = match part with | none => 0 | some n => BitVec.ofNat 8 (4 + n) := by
  cases part <;> rfl

/-- The pending status of an entry, 0 where there is none (04 Table 4-4). -/
theorem owedByte_eq (owed : Option Status) : ((owed.map fun s => s.code.zeroExtend 8).getD 0 : Byte) = match owed with
    | none => 0 | some .ok => 0 | some .failed => 1 | some .timeout => 2 | some .denied => 3 | some .noTarget => 4
    | some .linkDown => 5 | some .declined => 6 | some .malformed => 7 | some .busy => 8 | some .state => 9
    | some .range => 10 := by
  cases owed with
  | none => rfl
  | some status => cases status <;> rfl

/-! ### What a reading command answers -/

section
variable {c : Command} (b : Bridge)

theorem portStatus_reads {p : Port} (h : c.num 0 = (Port.code p).toNat) :
    portStatusEffect c b = done (portData b p) b := by
  simp [portStatusEffect, h, port?_code]

theorem portStatus_range (h : 2 ≤ c.num 0) : portStatusEffect c b = refuse .range b := by
  simp [portStatusEffect, port?_none h]

theorem laneRead_reads {p : Port} {i : Fin 16} (hport : c.num 0 = (Port.code p).toNat) (hlane : c.num 1 = i.val) :
    laneReadEffect c b = done (laneData p i (b.port p).lanes[i]) b := by
  simp [laneReadEffect, hport, hlane, port?_code, index?_val]

theorem laneRead_range (h : 2 ≤ c.num 0 ∨ 16 ≤ c.num 1) : laneReadEffect c b = refuse .range b := by
  rcases h with hport | hlane
  · simp [laneReadEffect, port?_none hport]
  · simp [laneReadEffect, index?_none hlane]

theorem windowRead_reads {i : Fin 32} (h : c.num 0 = i.val) :
    windowReadEffect c b = done (windowData i (b.slot i)) b := by
  simp [windowReadEffect, slot?_eq h]

theorem windowRead_range (h : 32 ≤ c.num 0) : windowReadEffect c b = refuse .range b := by
  simp [windowReadEffect, slot?_none h]

theorem groupRead_reads {g : Fin 8} (h : c.num 0 = g.val) : groupReadEffect c b = done (groupData g b.groups[g]) b := by
  simp [groupReadEffect, h, index?_val]

theorem groupRead_range (h : 8 ≤ c.num 0) : groupReadEffect c b = refuse .range b := by
  simp [groupReadEffect, index?_none h]

theorem table?_code (d : Dir) : table? (if d = .down then 0 else 1) = some d := by cases d <;> rfl

/-- A number of 2 or more names no table. -/
theorem table?_none {v : Nat} (h : 2 ≤ v) : table? v = none := by
  match v, h with
  | v + 2, _ => rfl

theorem queryRead_reads {d : Dir} {e : Fin 64} (htable : c.num 0 = if d = .down then 0 else 1)
    (hentry : c.num 1 = e.val) : queryReadEffect c b = done (queryData d e (b.entry d e) b.timeBase) b := by
  simp [queryReadEffect, htable, hentry, table?_code, index?_val]

theorem queryRead_range (h : 2 ≤ c.num 0 ∨ 64 ≤ c.num 1) : queryReadEffect c b = refuse .range b := by
  rcases h with htable | hentry
  · simp [queryReadEffect, table?_none htable]
  · simp [queryReadEffect, index?_none hentry]

theorem signalRead_reads {i : Fin 64} (h : c.num 0 = i.val) :
    signalReadEffect c b = done (lineData i (b.line i)) b := by
  simp [signalReadEffect, h, index?_val]

theorem signalRead_range (h : 64 ≤ c.num 0) : signalReadEffect c b = refuse .range b := by
  simp [signalReadEffect, index?_none h]

end

/-- Settles O41: the layouts byte by byte, then each row by the object its operands name. -/
theorem readCommandsReport : Obligations.ReadCommandsReport := by
  unfold Obligations.ReadCommandsReport
  intro num int port rate lanes six four link cause settings held count
  have hlink (x : LinkState) : x.code = link x := by cases x <;> rfl
  have hcause (x : Cause) : x.code = cause x := by cases x <;> rfl
  have hrate (r : Rate) : r.byte = rate r := by cases r <;> rfl
  have hlanes (w : Width) : w.lanes = lanes w := by cases w <;> rfl
  have hsettings (x : LinkSettings) : x.data = settings x := by
    simp only [LinkSettings.data, hrate, hlanes]
    rfl
  refine ⟨fun b c => ?_, fun b p => ?_, fun p i l => ?_, fun i x => ?_, fun _ _ => rfl, fun d e x now => ?_,
    fun _ _ => rfl, fun i l => ?_, fun s c => ?_⟩
  · simp only [identifyData, flagByte_eq, portCode_eq, hlink]
    rfl
  · simp only [portData, portCode_eq, hlink, hcause, hrate, hsettings, widthByte_eq, hlanes, linkCode_eq]
    rfl
  · simp only [laneData, portCode_eq, flagByte_eq, hrate]
    rfl
  · simp only [windowData, windowFlags_eq, slotStateCode_eq]
    rfl
  · have htable : flagByte (d == .up) = if d = .up then 1 else 0 := by cases d <;> rfl
    simp only [queryData, htable, stateByte_eq, entryStateCode_toNat, queryPosCode_toNat, queryKindCode_toNat,
      slotByte_eq, nextPartByte_eq, owedByte_eq]
    rfl
  · simp only [lineData, lineFlags_eq, lineStateCode_toNat]
    rfl
  · intro b ok range
    refine ⟨fun hready => ?_, fun p hready h => ?_, fun hready h => ?_, fun p i hready hport hlane => ?_,
      fun hready h => ?_, fun i hready h => ?_, fun hready h => ?_, fun g hready h => ?_, fun hready h => ?_,
      fun d e hready htable hentry => ?_, fun hready h => ?_, fun hready => ?_, fun i hready h => ?_,
      fun hready h => ?_⟩
    · exact exec_of_effect (effect := identifyEffect) hready rfl rfl
    · exact exec_of_effect hready rfl (portStatus_reads b h)
    · exact exec_of_effect hready rfl (portStatus_range b h)
    · exact exec_of_effect hready rfl (laneRead_reads b hport hlane)
    · exact exec_of_effect hready rfl (laneRead_range b h)
    · exact exec_of_effect hready rfl (windowRead_reads b h)
    · exact exec_of_effect hready rfl (windowRead_range b h)
    · exact exec_of_effect hready rfl (groupRead_reads b h)
    · exact exec_of_effect hready rfl (groupRead_range b h)
    · exact exec_of_effect hready rfl (queryRead_reads b htable hentry)
    · exact exec_of_effect hready rfl (queryRead_range b h)
    · exact exec_of_effect (effect := querySummaryEffect) hready rfl rfl
    · exact exec_of_effect hready rfl (signalRead_reads b h)
    · exact exec_of_effect hready rfl (signalRead_range b h)

end Sys2Proof.ReadCommands
end

section
/-! Raised records and the capture commands (O51, O48): what a record writes as it enters, what raising it brings about,
the layout of the reply data, and what CAPTURE_READ and CAPTURE_CLEAR leave. -/

namespace Sys2Proof.CaptureRecords

open Sys2Proof.Machine Sys2Proof.Safety Sys2Proof.Laws
open Sys2Proof.CreditOverrun (raise_adds)
open Sys2Proof.PushedPackets (enterRecord_ports_engine)
open Sys2Proof.SignalLines (cancelled cancelNotification_setLine)
open Sys2Proof.ReadCommands (flagByte_eq)
open Sys2Proof.WindowTable (exec_of_effect)

/-! ### A record enters (11 R179, R183) -/

section
variable {b : Bridge} (r : Record)

/-- A record that enters joins as the newest, and line 0 is asserted. -/
theorem enterRecord_of_room (h : b.capture.length < Config.capturePlaces) :
    b.enterRecord r = { b with capture := b.capture ++ [r] }.setLine 0 { b.line 0 with level := true } := by
  rw [Bridge.enterRecord, if_pos h]
  rfl

/-- A record that finds 16 held is dropped and sets the overflowed flag; line 0 is asserted. -/
theorem enterRecord_of_full (h : Config.capturePlaces ≤ b.capture.length) :
    b.enterRecord r = { b with overflowed := true }.setLine 0 { b.line 0 with level := true } := by
  rw [Bridge.enterRecord, if_neg (Nat.not_lt.mpr h)]
  rfl

/-- Writing a line as it stands changes nothing. -/
theorem setLine_line (b : Bridge) (i : Fin 64) : b.setLine i (b.line i) = b := by
  simp [Bridge.setLine, Bridge.line]

theorem lines_enterRecord (b : Bridge) :
    (b.enterRecord r).lines = (b.setLine 0 { b.line 0 with level := true }).lines := by
  unfold Bridge.enterRecord
  split <;> rfl

theorem held_of_full (h : Config.capturePlaces ≤ b.capture.length) : b.capture ≠ [] :=
  List.ne_nil_of_length_pos (Nat.lt_of_lt_of_le (by decide) h)

/-- A record that finds records held raises nothing else. -/
theorem raise_of_held (h : b.capture ≠ []) : raise r b = b.enterRecord r := by
  simp [raise, recordWith, h]

/-- A record that enters an empty queue makes a line 0 notify that is IDLE with its notify condition (09 R152). -/
theorem raise_of_empty (h : b.capture = []) :
    let held := { b with capture := [r] }.setLine 0 { b.line 0 with level := true }
    raise r b =
      if (b.line 0).state = .idle ∧ (b.line 0).enabled = true ∧ (b.line 0).masked = false then notify 0 held
      else held := by
  intro held
  have hentered : b.enterRecord r = held := by
    rw [enterRecord_of_room r (by rw [h]; decide), h]
    rfl
  have hline : held.line 0 = { b.line 0 with level := true } := line_setLine_self _ 0 _
  simp [raise, recordWith, h, hentered, hline, Line.due, notify]

end

/-- Settles O51: a record that enters does so ahead of what its notification raises, and one that finds 16 held raises
nothing else. -/
theorem raisedRecordEnters : Obligations.RaisedRecordEnters := by
  unfold Obligations.RaisedRecordEnters
  refine ⟨fun _ _ _ => rfl, fun r b => ⟨fun hroom => ?_, fun hfull => ?_⟩⟩
  · obtain ⟨later, hlater⟩ := (raise_adds r b).capture
    refine ⟨later, ?_⟩
    rw [← hlater, enterRecord_of_room r hroom]
    simp
  · rw [raise_of_held r (held_of_full hfull), enterRecord_of_full r hfull]
    exact ⟨rfl, rfl⟩

/-! ### The reply data of CAPTURE_READ (11 Tables 11-2 and 11-3) -/

/-- The presence byte of a record: one bit for each optional field, from the lowest (11 Table 11-2). -/
theorem presenceByte_eq (r : Record) :
    ((0 : BitVec 2) ++ BitVec.ofBool r.count.isSome ++ BitVec.ofBool r.status.isSome ++
      BitVec.ofBool r.slot.isSome ++ BitVec.ofBool r.tag.isSome ++ BitVec.ofBool r.addr.isSome ++
      BitVec.ofBool r.src.isSome : BitVec 8) = BitVec.ofNat 8
    (r.src.isSome.toNat + 2 * r.addr.isSome.toNat + 4 * r.tag.isSome.toNat + 8 * r.slot.isSome.toNat +
      16 * r.status.isSome.toNat + 32 * r.count.isSome.toNat) := by
  have packed : ∀ u a t i x n : Bool,
      ((0 : BitVec 2) ++ BitVec.ofBool n ++ BitVec.ofBool x ++ BitVec.ofBool i ++ BitVec.ofBool t ++ BitVec.ofBool a ++
        BitVec.ofBool u : BitVec 8) =
      BitVec.ofNat 8 (u.toNat + 2 * a.toNat + 4 * t.toNat + 8 * i.toNat + 16 * x.toNat + 32 * n.toNat) := by decide
  exact packed ..

/-! An absent field reads 0 (11 Table 11-2). -/

theorem srcByte_eq (src : Option UnitNo) : ((src.getD 0).zeroExtend 8 : Byte) =
    match src with | none => 0 | some u => BitVec.ofNat 8 u.toNat := by
  cases src with
  | none => rfl
  | some u => exact (BitVec.ofNat_toNat 8 u).symm

theorem statusByte_eq (status : Option (BitVec 4)) : ((status.getD 0).zeroExtend 8 : Byte) =
    match status with | none => 0 | some x => BitVec.ofNat 8 x.toNat := by
  cases status with
  | none => rfl
  | some x => exact (BitVec.ofNat_toNat 8 x).symm

theorem addrField_eq (addr : Option Addr) : addr.getD 0 = match addr with | none => 0 | some a => a := by
  cases addr <;> rfl

theorem tagByte_eq (tag : Option Tag) : tag.getD 0 = match tag with | none => 0 | some x => x := by
  cases tag <;> rfl

theorem slotByte_eq (slot : Option (Fin 32)) : byteOf ((slot.map (·.val)).getD 0) =
    match slot with | none => 0 | some i => BitVec.ofNat 8 i.val := by
  cases slot <;> rfl

theorem countByte_eq (count : Option Nat) : byteOf (count.getD 0) =
    match count with | none => 0 | some n => BitVec.ofNat 8 n := by
  cases count <;> rfl

/-! ### What the commands leave (11 R181 to R183) -/

/-- The line deasserted, and back at IDLE where it was PENDING (09 R151, R152). -/
def deasserted (l : Line) : Line := { l with level := false, state := if l.state = .pending then .idle else l.state }

theorem deassertAlert_eq (b : Bridge) : deassertAlert b = b.setLine 0 (deasserted (b.line 0)) := by
  rw [deassertAlert, cancelNotification_setLine]
  congr 1
  by_cases h : (b.line 0).state = .pending <;> simp [cancelled, deasserted, h]

section
variable (c : Command) {b : Bridge}

theorem captureRead_empty (h : b.capture = []) : captureReadEffect c b = done (captureData b) b := by
  simp only [captureReadEffect, h]

theorem captureRead_last {r : Record} (h : b.capture = [r]) : captureReadEffect c b =
    done (captureData b) ({ b with capture := [] }.setLine 0 (deasserted (b.line 0))) := by
  simp only [captureReadEffect, h, deassertAlert_eq]
  rfl

theorem captureRead_more {r r' : Record} {rest : List Record} (h : b.capture = r :: r' :: rest) :
    captureReadEffect c b = done (captureData b) { b with capture := r' :: rest } := by
  simp only [captureReadEffect, h]

theorem captureClear_empty (h : b.capture = []) : captureClearEffect c b =
    done [BitVec.ofNat 8 b.capture.length, BitVec.ofNat 8 b.overflowed.toNat] { b with overflowed := false } := by
  simp only [captureClearEffect, flagByte_eq, h]
  rfl

theorem captureClear_held (h : b.capture ≠ []) : captureClearEffect c b =
    done [BitVec.ofNat 8 b.capture.length, BitVec.ofNat 8 b.overflowed.toNat]
      ({ b with capture := [], overflowed := false }.setLine 0 (deasserted (b.line 0))) := by
  simp only [captureClearEffect, flagByte_eq, List.isEmpty_iff, if_neg h, deassertAlert_eq]
  rfl

end

/-- Settles O48: the layouts byte by byte, line 0 by what the record finds, and each command by what the queue holds. -/
theorem captureCommands : Obligations.CaptureCommands := by
  unfold Obligations.CaptureCommands
  intro num six four record
  have hrecord (r : Record) : r.data = record r := by
    have hkind : r.kind.code = (match r.kind with
      | .checkFail => num 1 | .replayLimit => num 2 | .linkLost => num 3 | .creditOverrun => num 4 | .malformed => num 5
      | .accessDenied => num 6 | .noWindow => num 7 | .queryTimeout => num 8 | .lateReply => num 9
      | .strayReply => num 10 | .lostReply => num 11 | .discarded => num 12) := by cases r.kind <;> rfl
    have hport : Port.code r.port = (match r.port with | .root => num 0 | .leaf => num 1) := by cases r.port <;> rfl
    rw [Record.data, hkind, hport, presenceByte_eq, srcByte_eq, addrField_eq, tagByte_eq, slotByte_eq, statusByte_eq,
      countByte_eq]
    rfl
  refine ⟨fun b => ?_, fun r b hempty => ?_, fun r b hheld hlevel => ?_, fun s c => ?_⟩
  · have hrecords : Record.data = record := funext hrecord
    simp only [captureData, flagByte_eq, hrecords, List.length_take]
    rfl
  · intro held
    rw [raise_of_empty r hempty]
    refine ⟨fun hidle henabled hmasked => if_pos ⟨hidle, henabled, hmasked⟩, fun hnot => if_neg ?_⟩
    rintro ⟨hidle, henabled, hmasked⟩
    simp [hidle, henabled, hmasked] at hnot
  · obtain ⟨hports, hengine⟩ := enterRecord_ports_engine b r
    have hsame : b.setLine 0 { b.line 0 with level := true } = b := by
      rw [← hlevel]
      exact setLine_line b 0
    rw [raise_of_held r hheld]
    exact ⟨by rw [lines_enterRecord, hsame], hengine, hports⟩
  · intro b l off read cleared
    refine ⟨fun hready => ⟨fun h => ?_, fun r h => ?_, fun r r' rest h => ?_⟩, fun hready => ⟨fun h => ?_, fun h => ?_⟩⟩
    · exact exec_of_effect hready rfl (captureRead_empty c h)
    · exact exec_of_effect hready rfl (captureRead_last c h)
    · exact exec_of_effect hready rfl (captureRead_more c h)
    · exact exec_of_effect hready rfl (captureClear_empty c h)
    · exact exec_of_effect hready rfl (captureClear_held c h)

end Sys2Proof.CaptureRecords
end

section
/-! The capture queue and line 0 (O54): the queue holds at most 16 records, and line 0 is asserted exactly while it
holds one. A record that enters asserts line 0; a cold reset, CAPTURE_READ and CAPTURE_CLEAR deassert it where they empty
the queue; nothing else writes the queue or line 0's level, since a SIGNAL that names line 0 is malformed. The facts
follow the operations in the model's order. -/

namespace Sys2Proof.CaptureQueue

open Sys2Proof.Machine Sys2Proof.Safety Sys2Proof.Laws
open Sys2Proof.CaptureRecords (enterRecord_of_room enterRecord_of_full held_of_full deasserted captureRead_empty
  captureRead_last captureRead_more captureClear_empty captureClear_held)
open Sys2Proof.EngineLists (deliverWith_pushes_or_waits)
open Sys2Proof.WindowReferences (verdictPart)

/-! ### What keeps the pair -/

/-- The change from `b` to `b'` keeps the capture queue within its places and line 0 true to it. -/
def CaptureKept (b b' : Bridge) : Prop := CaptureInv b → CaptureInv b'

theorem CaptureKept.refl (b : Bridge) : CaptureKept b b := id

theorem CaptureKept.trans {a b c : Bridge} (h : CaptureKept a b) (k : CaptureKept b c) : CaptureKept a c := k ∘ h

/-- The invariant speaks of the queue, and of the level and the last asserting unit of line 0, alone. -/
theorem CaptureKept.of_line {b b' : Bridge} (hcapture : b'.capture = b.capture)
    (hlevel : (b'.line 0).level = (b.line 0).level) (hunit : (b'.line 0).lastUnit = (b.line 0).lastUnit) :
    CaptureKept b b' := by
  rw [CaptureKept, CaptureInv, CaptureInv, hcapture, hlevel, hunit]
  exact id

theorem CaptureKept.of_same {b b' : Bridge} (hcapture : b'.capture = b.capture) (hlines : b'.lines = b.lines) :
    CaptureKept b b' := by
  have hline : b'.line 0 = b.line 0 := by rw [Bridge.line, hlines]; rfl
  exact .of_line hcapture (congrArg _ hline) (congrArg _ hline)

theorem CaptureKept.rest {a b b' : Bridge} (h : CaptureKept a b) (hcapture : b'.capture = b.capture)
    (hlines : b'.lines = b.lines) : CaptureKept a b' := h.trans (.of_same hcapture hlines)

theorem CaptureKept.after {a b b' : Bridge} (h : CaptureKept b b') (hcapture : b.capture = a.capture)
    (hlines : b.lines = a.lines) : CaptureKept a b' := (CaptureKept.of_same hcapture hlines).trans h

theorem CaptureKept.foldl {α : Type} {f : Bridge → α → Bridge} (hf : ∀ x b, CaptureKept b (f b x)) (l : List α)
    (b : Bridge) : CaptureKept b (l.foldl f b) := by
  induction l generalizing b with
  | nil => exact .refl b
  | cons x l ih => exact (hf x b).trans (ih (f b x))

/-- A write to another line than line 0. -/
theorem setLine_other_kept (b : Bridge) {i : Fin 64} (l : Line) (h : i ≠ 0) : CaptureKept b (b.setLine i l) := by
  have hline : (b.setLine i l).line 0 = b.line 0 := line_setLine_other b l (Ne.symm h)
  exact .of_line rfl (congrArg _ hline) (congrArg _ hline)

/-- A write to any line that leaves its level and its last asserting unit. -/
theorem setLine_kept {b : Bridge} {i : Fin 64} {l : Line} (hlevel : l.level = (b.line i).level)
    (hunit : l.lastUnit = (b.line i).lastUnit) : CaptureKept b (b.setLine i l) := by
  by_cases h : i = 0
  · subst h
    have hline : (b.setLine 0 l).line 0 = l := line_setLine_self b 0 l
    exact .of_line rfl ((congrArg _ hline).trans hlevel) ((congrArg _ hline).trans hunit)
  · exact setLine_other_kept b l h

theorem CaptureKept.afterSetLine {b b' : Bridge} {i : Fin 64} {l : Line} (h : CaptureKept (b.setLine i l) b')
    (hlevel : l.level = (b.line i).level) (hunit : l.lastUnit = (b.line i).lastUnit) : CaptureKept b b' :=
  (setLine_kept hlevel hunit).trans h

/-- With line 0 just written, the invariant is about the queue and what was written. -/
theorem captureInv_setLine_iff (b : Bridge) (l : Line) : CaptureInv (b.setLine 0 l) ↔
    b.capture.length ≤ Config.capturePlaces ∧ l.level = !b.capture.isEmpty ∧ l.lastUnit = none := by
  rw [CaptureInv, line_setLine_self]
  rfl

/-- The queue emptied, with line 0 deasserted (11 R183). -/
theorem emptied_captureInv {b b' : Bridge} (h : CaptureInv b) (hcapture : b'.capture = []) :
    CaptureInv (b'.setLine 0 (deasserted (b.line 0))) := by
  obtain ⟨-, -, hunit⟩ := h
  rw [captureInv_setLine_iff, hcapture]
  exact ⟨Nat.zero_le _, rfl, hunit⟩

/-! ### Records, pushes and replies (chapter 5, 11 R179) -/

theorem enterRecord_kept (r : Record) (b : Bridge) : CaptureKept b (b.enterRecord r) := by
  rintro ⟨hbound, -, hunit⟩
  by_cases hroom : b.capture.length < Config.capturePlaces
  · rw [enterRecord_of_room r hroom, captureInv_setLine_iff]
    refine ⟨?_, by simp, hunit⟩
    rw [List.length_append, List.length_singleton]
    exact hroom
  · have hfull : Config.capturePlaces ≤ b.capture.length := Nat.not_lt.mp hroom
    rw [enterRecord_of_full r hfull, captureInv_setLine_iff]
    exact ⟨hbound, by simp [held_of_full hfull], hunit⟩

theorem place_kept (x : Push) (b : Bridge) : CaptureKept b (b.place x) := by
  unfold Bridge.place
  dsimp only
  split <;> exact .of_same rfl rfl

section
variable {push : Push → Bridge → Bridge} (hp : ∀ x b, CaptureKept b (push x b))
include hp

theorem notifyWith_kept (i : Fin 64) (b : Bridge) : CaptureKept b (notifyWith push i b) := by
  unfold notifyWith
  dsimp only
  split
  · exact (hp _ _).afterSetLine rfl rfl
  · exact setLine_kept rfl rfl

theorem recordWith_kept (r : Record) (b : Bridge) : CaptureKept b (recordWith push r b) := by
  unfold recordWith
  dsimp only
  split
  · exact (enterRecord_kept r b).trans (notifyWith_kept hp 0 _)
  · exact enterRecord_kept r b

theorem deliverWith_kept (r : MgmtReply) (wakes : Bool) (b : Bridge) : CaptureKept b (deliverWith push r wakes b) := by
  rcases deliverWith_pushes_or_waits push r wakes b with hpushed | hwaits
  · rw [hpushed]
    exact (hp _ _).after rfl rfl
  · rw [hwaits]
    exact .of_same rfl rfl

theorem failDrainWith_kept (p : Port) (b : Bridge) : CaptureKept b (failDrainWith push p b) := by
  unfold failDrainWith
  split
  · exact .refl b
  · exact (deliverWith_kept hp _ _ _).after rfl rfl

end

theorem pushWith_kept (fuel : Nat) (x : Push) (b : Bridge) : CaptureKept b (pushWith fuel x b) := by
  induction fuel generalizing x b with
  | zero =>
    unfold pushWith
    split
    · exact enterRecord_kept _ b
    · exact place_kept x b
  | succ fuel ih =>
    unfold pushWith
    split
    · exact recordWith_kept ih _ b
    · exact (place_kept x b).trans (failDrainWith_kept ih _ _)

theorem push_kept (x : Push) (b : Bridge) : CaptureKept b (push x b) := pushWith_kept 5 x b

theorem raise_kept (r : Record) (b : Bridge) : CaptureKept b (raise r b) := recordWith_kept push_kept r b

theorem raiseIf_kept (r : Option Record) (b : Bridge) : CaptureKept b (raiseIf r b) := by
  cases r with
  | none => exact .refl b
  | some r => exact raise_kept r b

theorem notifyIfDue_kept (i : Fin 64) (b : Bridge) : CaptureKept b (notifyIfDue i b) := by
  unfold notifyIfDue
  split
  · exact notifyWith_kept push_kept i b
  · exact .refl b

theorem cancelNotification_kept (i : Fin 64) (b : Bridge) : CaptureKept b (cancelNotification i b) := by
  unfold cancelNotification
  dsimp only
  split
  · exact setLine_kept rfl rfl
  · exact .refl b

theorem deliver_kept (r : MgmtReply) (b : Bridge) : CaptureKept b (deliver r b) := deliverWith_kept push_kept r true b

theorem failDrain_kept (p : Port) (b : Bridge) : CaptureKept b (failDrain p b) := failDrainWith_kept push_kept p b

theorem enter_kept (x : Push) (b : Bridge) : CaptureKept b (enter x b) := by
  unfold enter
  split
  · exact .refl b
  · exact place_kept x b

theorem follow_kept (x : Push) (b : Bridge) : CaptureKept b (follow x b) := by
  unfold follow
  split
  · exact recordWith_kept push_kept _ b
  · exact failDrainWith_kept push_kept _ b

theorem pushBoth_kept (x y : Push) (b : Bridge) : CaptureKept b (pushBoth x y b) :=
  (((enter_kept x b).trans (enter_kept y _)).trans (follow_kept x _)).trans (follow_kept y _)

theorem answerRetire_kept (i : Fin 32) (b : Bridge) : CaptureKept b (answerRetire i b) := by
  unfold answerRetire
  split
  · exact .refl b
  · exact (deliver_kept _ _).after rfl rfl

theorem answerRetrain_kept (p : Port) (status : Status) (data : List Byte) (b : Bridge) :
    CaptureKept b (answerRetrain p status data b) := by
  unfold answerRetrain
  split
  · exact .refl b
  · exact (deliver_kept _ _).after rfl rfl

theorem admitReply_kept (p : Port) (b : Bridge) : CaptureKept b (admitReply p b) := by
  unfold admitReply
  split
  · exact .refl b
  · dsimp only
    split <;> exact (push_kept _ _).after rfl rfl

theorem admitLine_kept (i : Fin 64) (b : Bridge) : CaptureKept b (admitLine i b) :=
  (push_kept _ _).afterSetLine rfl rfl

/-! ### Entries (chapter 4) -/

theorem releaseSlot_kept (i : Fin 32) (b : Bridge) : CaptureKept b (releaseSlot i b) := by
  unfold releaseSlot
  dsimp only
  split
  · exact (answerRetire_kept i _).after rfl rfl
  · exact .of_same rfl rfl

theorem freeEntry_kept (d : Dir) (e : Fin 64) (b : Bridge) : CaptureKept b (freeEntry d e b) := by
  unfold freeEntry
  dsimp only
  split
  · exact .of_same rfl rfl
  · exact (releaseSlot_kept _ _).after rfl rfl

theorem pushOwed_kept (d : Dir) (e : Fin 64) (b : Bridge) : CaptureKept b (pushOwed d e b) := by
  have hdone := push_kept (Push.plain d.requesterPort (owedDone b.unit (b.entry d e))) b
  unfold pushOwed
  dsimp only
  split
  · exact hdone.trans (freeEntry_kept d e _)
  · exact hdone.rest rfl rfl

/-! ### Routes (chapter 3) -/

/-- A route does not set the level of line 0, which is the part's own (09 R151). -/
def SparesAlert : Route → Prop
  | .signal i _ _ => i ≠ 0
  | _ => True

theorem forwardPut_spares (b : Bridge) (p : Port) (k : Packet) (a : Addr) : SparesAlert (forwardPut b p k a) := by
  unfold forwardPut
  split <;> trivial

theorem forwardQuery_spares (b : Bridge) (p : Port) (k : Packet) (a : Addr) (slot : Option (Fin 32)) :
    SparesAlert (forwardQuery b p k a slot) := by
  unfold forwardQuery
  split <;> trivial

theorem earlyAckRoute_spares (b : Bridge) (p : Port) (k : Packet) (a : Addr) :
    SparesAlert (earlyAckRoute b p k a) := by
  unfold earlyAckRoute
  split <;> trivial

theorem routePut_spares (b : Bridge) (p : Port) (k : Packet) : SparesAlert (routePut b p k) := by
  unfold routePut
  dsimp only
  split
  · split
    · exact forwardPut_spares b p k _
    · trivial
  · split
    · exact forwardPut_spares b p k _
    all_goals trivial

theorem routeGetSet_spares (b : Bridge) (p : Port) (k : Packet) : SparesAlert (routeGetSet b p k) := by
  unfold routeGetSet
  dsimp only
  split
  · split
    · trivial
    split
    · trivial
    split
    · exact earlyAckRoute_spares b p k _
    · exact forwardQuery_spares b p k _ _
  · split
    · exact forwardQuery_spares b p k _ _
    all_goals trivial

theorem routeManage_spares (b : Bridge) (p : Port) (k : Packet) : SparesAlert (routeManage b p k) := by
  unfold routeManage
  split
  · exact forwardQuery_spares b p k _ _
  split <;> trivial

theorem routeReply_spares (b : Bridge) (p : Port) (k : Packet) : SparesAlert (routeReply b p k) := by
  unfold routeReply
  split
  · trivial
  split <;> trivial

theorem routeMalformed_spares (b : Bridge) (p : Port) (k : Packet) : SparesAlert (routeMalformed b p k) := by
  unfold routeMalformed
  repeat' split
  all_goals trivial

/-- A SIGNAL that names line 0 is malformed (01 Table 1-4). -/
theorem line_ne_zero_of_wellFormed {p : Port} {k : Packet} (hkind : k.kind = .signal) (hwf : ¬malformed p k = true) :
    k.line ≠ 0 := by
  intro hzero
  simp [malformed, hkind, hzero] at hwf

theorem routeOf_spares (b : Bridge) (p : Port) (k : Packet) : SparesAlert (routeOf b p k) := by
  unfold routeOf
  split
  · exact routeMalformed_spares b p k
  next hwf =>
  split
  · exact routePut_spares b p k
  · exact routeGetSet_spares b p k
  · exact routeGetSet_spares b p k
  · exact routeManage_spares b p k
  · next hkind => exact line_ne_zero_of_wellFormed hkind hwf
  · exact routeReply_spares b p k
  · exact routeReply_spares b p k
  · exact routeMalformed_spares b p k

theorem allocate_kept (d : Dir) (k : Packet) (slot : Option (Fin 32)) (b : Bridge) :
    CaptureKept b (allocate d k slot b) := by
  unfold allocate
  split
  · exact .refl b
  · cases slot <;> exact (push_kept _ _).after rfl rfl

theorem takeLevel_kept {i : Fin 64} (h : i ≠ 0) (level : Bool) (unit : UnitNo) (b : Bridge) :
    CaptureKept b (takeLevel i level unit b) := by
  unfold takeLevel
  split
  · exact (setLine_other_kept b _ h).trans (notifyIfDue_kept i _)
  · exact (setLine_other_kept b _ h).trans (cancelNotification_kept i _)

theorem restoreReply_kept (d : Dir) (e : Fin 64) (k : Packet) (b : Bridge) :
    CaptureKept b (restoreReply d e k b) := by
  have hreply := push_kept (Push.plain d.requesterPort (restored (b.entry d e) k)) b
  unfold restoreReply
  dsimp only
  split
  · exact hreply.trans (freeEntry_kept d e _)
  · exact hreply.rest rfl rfl

theorem dropReply_kept (d : Dir) (e : Fin 64) (k : Packet) (b : Bridge) : CaptureKept b (dropReply d e k b) := by
  unfold dropReply
  dsimp only
  split
  · exact raise_kept _ b
  split
  · exact (raise_kept _ _).after rfl rfl
  · exact (raise_kept _ _).after rfl rfl
  · refine CaptureKept.trans ?_ (raise_kept _ _)
    split
    · exact freeEntry_kept d e b
    · exact .refl b
  · exact .refl b

theorem takeNotice_kept (d : Dir) (e : Fin 64) (final : Bool) (b : Bridge) :
    CaptureKept b (takeNotice d e final b) := by
  unfold takeNotice
  dsimp only
  split
  · exact .refl b
  split
  · exact .refl b
  · exact .of_same rfl rfl
  · exact .of_same rfl rfl
  · split
    · exact freeEntry_kept d e b
    · exact .refl b

theorem carryOut_kept {r : Route} (h : SparesAlert r) (b : Bridge) : CaptureKept b (r.carryOut b) := by
  cases r with
  | single x => exact push_kept x b
  | entry d k slot => exact allocate_kept d k slot b
  | earlyAck x y => exact pushBoth_kept x y b
  | answer x rec => exact (push_kept x b).trans (raiseIf_kept rec _)
  | engine c => exact .of_same rfl rfl
  | signal i level unit => exact takeLevel_kept h level unit b
  | restore d e k => exact restoreReply_kept d e k b
  | badReply d e k => exact dropReply_kept d e k b
  | discard rec => exact raise_kept rec b
  | notice rec d e final => exact (takeNotice_kept d e final b).trans (raise_kept rec _)

theorem takeAt_kept (p : Port) (c : Cls) (i : Nat) (b : Bridge) : CaptureKept b (takeAt p c i b) := by
  unfold takeAt
  dsimp only
  split
  · exact .refl b
  · split
    · exact (carryOut_kept (routeOf_spares b p _) b).rest rfl rfl
    · exact .refl b

theorem takeHead_kept (p : Port) (c : Cls) (kinds : List Kind) (b : Bridge) :
    CaptureKept b (takeHead p c kinds b) := by
  unfold takeHead
  split
  · exact .refl b
  split
  · exact takeAt_kept p c 0 b
  · exact .refl b

/-! ### The offering of freed places (05 R90) -/

theorem admitFirst_kept {b b' : Bridge} {p : Port} {c : Cls} (hb : admitFirst p c b = some b') : CaptureKept b b' := by
  simp only [admitFirst, Option.orElse_eq_orElse, Option.orElse_eq_or, Option.or_eq_some_iff] at hb
  rcases hb with (hrank1 | ⟨_, hrank2⟩) | ⟨_, hrank3 | ⟨_, hrank45⟩⟩
  · split at hrank1
    · obtain ⟨e, _, rfl⟩ := Option.map_eq_some_iff.mp hrank1
      exact pushOwed_kept _ e b
    · cases hrank1
  · split at hrank2
    · cases hrank2
      exact admitReply_kept p b
    · cases hrank2
  · split at hrank3
    · obtain ⟨i, _, rfl⟩ := Option.map_eq_some_iff.mp hrank3
      exact admitLine_kept i b
    · cases hrank3
  · obtain ⟨q, _, rfl⟩ := Option.map_eq_some_iff.mp hrank45
    exact takeAt_kept _ _ _ b

theorem offerPlaces_kept (p : Port) (c : Cls) (n : Nat) (b : Bridge) : CaptureKept b (offerPlaces p c n b) := by
  induction n generalizing b with
  | zero => exact .refl b
  | succ n ih =>
    unfold offerPlaces
    split
    · split
      · exact .refl b
      · next b' hb => exact (admitFirst_kept hb).trans (ih b')
    · exact .refl b

theorem offerFreed_kept (before : Bridge) (p : Port) (c : Cls) (b : Bridge) :
    CaptureKept b (offerFreed before p c b) := by
  unfold offerFreed
  split
  · exact offerPlaces_kept p c _ b
  · exact .refl b

theorem offerAll_kept (before : Bridge) (p : Port) (b : Bridge) : CaptureKept b (offerAll before p b) :=
  ((offerFreed_kept before p .reply b).trans (offerFreed_kept before p .stream _)).trans
    (offerFreed_kept before p .query _)

theorem judge_kept (w : WaitingPool) (b : Bridge) : CaptureKept b (w.judge b) := by
  have hhead : CaptureKept b (if w.head then takeAt w.port w.cls 0 b else b) := by
    split
    · exact takeAt_kept _ _ _ b
    · exact .refl b
  unfold WaitingPool.judge
  dsimp only
  generalize (if w.head = true then takeAt w.port w.cls 0 b else b) = judged at hhead
  split
  · exact hhead
  · generalize (if (w.head && headReady b w.port w.cls) = true then _ else _) = j
    split
    · exact hhead.trans (takeAt_kept _ _ _ _)
    · exact hhead

/-! ### Trainings and port states (chapter 8) -/

theorem endTraffic_kept (p : Port) (b : Bridge) : CaptureKept b (endTraffic p b) :=
  (failDrain_kept p _).after rfl rfl

theorem beginTraining_kept (p : Port) (cause : Cause) (carried : Rate) (b : Bridge) :
    CaptureKept b (beginTraining p cause carried b) := by
  have hended := endTraffic_kept p b
  unfold beginTraining
  generalize endTraffic p b = e at hended
  exact hended.rest rfl rfl

theorem settleRetrain_kept (p : Port) (b : Bridge) : CaptureKept b (settleRetrain p b) := by
  unfold settleRetrain
  split
  · exact answerRetrain_kept p _ _ b
  split
  · exact (beginTraining_kept p _ _ _).after rfl rfl
  · exact .refl b

theorem enterActive_kept (p : Port) (w : Width) (b : Bridge) : CaptureKept b (enterActive p w b) :=
  (settleRetrain_kept p _).after rfl rfl

theorem wakeToActive_kept (p : Port) (b : Bridge) : CaptureKept b (wakeToActive p b) :=
  (settleRetrain_kept p _).after rfl rfl

theorem farPortLost_kept (d : Dir) (e : Fin 64) (b : Bridge) : CaptureKept b (farPortLost d e b) := by
  unfold farPortLost
  dsimp only
  generalize (if (b.entry d e).pos == .queued then { b.entry d e with pos := .cleared } else b.entry d e) = x
  split
  · exact .refl b
  · exact .of_same rfl rfl
  · exact .of_same rfl rfl
  · split
    · exact (freeEntry_kept d e _).after rfl rfl
    · exact .refl b

theorem lossAct_kept (p : Port) (a : LossAct) (b : Bridge) : CaptureKept b (a.carryOut p b) := by
  cases a with
  | record r => exact raise_kept r b
  | entryLost d e => exact farPortLost_kept d e b
  | donePushed d e => exact pushOwed_kept d e b
  | retrainEnds => exact answerRetrain_kept p _ _ b
  | replyPushed => exact admitReply_kept p b
  | linePushed i =>
    show CaptureKept b (if (b.line i).state == .pending then admitLine i b else b)
    split
    · exact admitLine_kept i b
    · exact .refl b
  | poolJudged w => exact judge_kept w b

theorem goDown_kept (p : Port) (b : Bridge) : CaptureKept b (goDown p b) :=
  (CaptureKept.foldl (lossAct_kept p) _ _).after rfl rfl

theorem failAttempt_kept (p : Port) (b : Bridge) : CaptureKept b (failAttempt p b) := by
  unfold failAttempt
  dsimp only
  split
  · exact .of_same rfl rfl
  · exact (goDown_kept p _).after rfl rfl

theorem emitConfig_kept (p : Port) (ack : Option Seq) (c : ConfigFlit) (b : Bridge) :
    CaptureKept b (emitConfig p ack c b) := by
  cases ack <;> exact .of_same rfl rfl

theorem sendConfig_kept (p : Port) (b : Bridge) : CaptureKept b (sendConfig p b) :=
  (emitConfig_kept p _ _ _).after rfl rfl

theorem absorbConfig_kept (p : Port) (c : ConfigFlit) (b : Bridge) : CaptureKept b (absorbConfig p c b) := by
  have hrenumbered : CaptureKept b (if c.restart then renumber p b else b) := by
    split <;> exact .of_same rfl rfl
  unfold absorbConfig
  dsimp only
  generalize (if c.restart = true then renumber p b else b) = r at hrenumbered
  split <;> exact hrenumbered.rest rfl rfl

theorem takeConfig_kept (p : Port) (c : ConfigFlit) (b : Bridge) : CaptureKept b (takeConfig p c b) := by
  have habsorbed := absorbConfig_kept p c b
  unfold takeConfig
  dsimp only
  split
  · exact habsorbed.trans (failAttempt_kept p _)
  · exact habsorbed.trans (enterActive_kept p _ _)

theorem enterConfig_kept (p : Port) (b : Bridge) : CaptureKept b (enterConfig p b) := by
  have hsent : CaptureKept b (sendConfig p (b.setLinkState p .config)) := (sendConfig_kept p _).after rfl rfl
  unfold enterConfig
  dsimp only
  split
  · exact hsent
  · exact hsent.trans (takeConfig_kept p _ _)

/-! ### Resets -/

theorem coldReset_captureInv (unitsel : UnitNo) (leafmgt : Bool) (b : Bridge) :
    CaptureInv (coldResetOf unitsel leafmgt b) := by
  have hline : (coldResetOf unitsel leafmgt b).line 0 = Line.cold := by simp [coldResetOf, Bridge.line, Bridge.cold]
  refine ⟨Nat.zero_le _, ?_, ?_⟩ <;> rw [hline] <;> rfl

theorem releaseReset_kept (b : Bridge) : CaptureKept b (releaseReset b) := by
  unfold releaseReset
  split
  · exact ((beginTraining_kept .root _ _ _).trans (beginTraining_kept .leaf _ _ _)).after rfl rfl
  · exact .refl b

theorem downEntryReset_kept (e : Fin 64) (b : Bridge) : CaptureKept b (downEntryReset e b) := by
  unfold downEntryReset
  dsimp only
  split
  · exact .of_same rfl rfl
  · split
    · exact freeEntry_kept _ e b
    · exact .of_same rfl rfl
  · exact .refl b
  · exact .refl b

theorem upEntryReset_kept (e : Fin 64) (b : Bridge) : CaptureKept b (upEntryReset e b) := by
  unfold upEntryReset
  dsimp only
  split
  · exact .refl b
  · exact .of_same rfl rfl
  · exact .of_same rfl rfl
  · exact freeEntry_kept _ e b

theorem resetTables_kept (forwarding : Bool) (b : Bridge) : CaptureKept b (resetTables forwarding b) := by
  unfold resetTables
  split
  · exact (CaptureKept.foldl (freeEntry_kept .down) _ b).trans (CaptureKept.foldl (freeEntry_kept .up) _ _)
  · exact (CaptureKept.foldl downEntryReset_kept _ b).trans (CaptureKept.foldl upEntryReset_kept _ _)

theorem resetTrainings_kept (forwarding : Bool) (b : Bridge) : CaptureKept b (resetTrainings forwarding b) := by
  have hroot := beginTraining_kept .root .reset .r3_2 b
  unfold resetTrainings
  dsimp only
  split
  · exact (hroot.rest (capture_emit ..) (lines_emit ..)).trans (beginTraining_kept .leaf _ _ _)
  · exact hroot

theorem enterFlushRecords_kept (rs : List Record) (b : Bridge) : CaptureKept b (enterFlushRecords rs b) :=
  (CaptureKept.foldl enterRecord_kept _ _).after rfl rfl

/-- A Root reset takes line 0 to IDLE and leaves its level (09 R161). -/
theorem resetLines_kept (forwarding : Bool) (b : Bridge) : CaptureKept b (resetLines forwarding b) := by
  have hline : (resetLines forwarding b).line 0 = { b.line 0 with state := .idle } := by
    simp [resetLines, Bridge.line, Line.atReset]
  exact .of_line rfl (by rw [hline]) (by rw [hline])

theorem notifyLines_kept (forwarding : Bool) (b : Bridge) :
    CaptureKept b ((resetLines forwarding b).forLines notifyIfDue) :=
  (resetLines_kept forwarding b).trans (CaptureKept.foldl notifyIfDue_kept _ _)

theorem resetPort_kept (p : Port) (b : Bridge) : CaptureKept b (resetPort p b) := .of_same rfl rfl

theorem atReset_kept (forwarding : Bool) (b : Bridge) : CaptureKept b (b.onEngine (·.atReset forwarding)) :=
  .of_same rfl rfl

theorem rootResetOf_kept (b : Bridge) : CaptureKept b (rootResetOf b) := by
  have hports : CaptureKept b
      (if b.engine.resetForwarding then resetPort .leaf (resetPort .root b) else resetPort .root b) := by
    split
    · exact (resetPort_kept .root b).trans (resetPort_kept .leaf _)
    · exact resetPort_kept .root b
  exact (((((hports.trans (atReset_kept _ _)).trans (resetTables_kept _ _)).trans
    (resetTrainings_kept _ _)).trans (enterFlushRecords_kept _ _)).trans (notifyLines_kept _ _)).trans
    (offerAll_kept b .root _)

/-! ### Packets and flits received -/

theorem judgeFrame_kept (p : Port) (f : RxFrame) (b : Bridge) : CaptureKept b (judgeFrame p f b) := by
  unfold judgeFrame takeExpected
  dsimp only
  split
  · split
    · split
      · exact (raise_kept _ b).trans (beginTraining_kept p _ _ _)
      · exact .of_same rfl rfl
    split <;> exact .of_same rfl rfl
  · exact (raise_kept _ _).after rfl rfl

theorem takeTrain_kept (p : Port) (marker : Bool) (rate : Rate) (b : Bridge) :
    CaptureKept b (takeTrain p marker rate b) := by
  have hbegun := beginTraining_kept p .partnerTrain rate b
  unfold takeTrain
  split
  · exact hbegun
  · exact hbegun
  · exact hbegun
  · exact hbegun
  · split
    · exact enterConfig_kept p b
    · exact .refl b
  · split
    · exact .refl b
    · exact failAttempt_kept p b

theorem meetConfig_kept (p : Port) (c : ConfigFlit) (b : Bridge) : CaptureKept b (meetConfig p c b) := by
  have hkept : CaptureKept b (keepConfig p c b) := .of_same rfl rfl
  unfold meetConfig
  dsimp only
  split
  · split
    · exact hkept.trans (enterConfig_kept p _)
    · exact hkept
  · exact takeConfig_kept p c b
  all_goals exact .refl b

theorem meetAck_kept (p : Port) (n : Seq) (b : Bridge) : CaptureKept b (meetAck p n b) := by
  unfold meetAck
  split <;> exact .of_same rfl rfl

theorem triggerReplay_kept (p : Port) (b : Bridge) : CaptureKept b (triggerReplay p b) := by
  unfold triggerReplay
  split
  · exact .of_same rfl rfl
  · exact (raise_kept _ b).trans (beginTraining_kept p _ _ _)

theorem takeNak_kept (p : Port) (n : Seq) (b : Bridge) : CaptureKept b (takeNak p n b) := by
  unfold takeNak
  dsimp only
  split
  · exact (triggerReplay_kept p _).after rfl rfl
  split <;> exact .of_same rfl rfl

theorem takePark_kept (p : Port) (b : Bridge) : CaptureKept b (takePark p b) := by
  unfold takePark
  split
  · exact (endTraffic_kept p _).after rfl rfl
  · exact .of_same rfl rfl

theorem takeWake_kept (p : Port) (b : Bridge) : CaptureKept b (takeWake p b) := by
  unfold takeWake
  split
  · exact (wakeToActive_kept p _).after rfl rfl
  · exact wakeToActive_kept p b
  all_goals exact .refl b

/-! ### The link and sending -/

theorem endSweep_kept (p : Port) (passing : Vector (BitVec 64) 16) (b : Bridge) :
    CaptureKept b (endSweep p passing b) := by
  unfold endSweep
  dsimp only
  split
  · exact (failAttempt_kept p _).after rfl rfl
  split
  · exact (enterConfig_kept p _).after rfl rfl
  · exact .of_same rfl rfl

theorem completePark_kept (p : Port) (b : Bridge) : CaptureKept b (completePark p b) := by
  unfold completePark
  split
  · exact .refl b
  · exact (deliverWith_kept push_kept _ _ _).after rfl rfl

theorem repeatConfig_kept (p : Port) (b : Bridge) : CaptureKept b (repeatConfig p b) := by
  unfold repeatConfig
  split
  · exact .refl b
  · exact (emitConfig_kept p _ _ _).after rfl rfl

theorem sendAnswer_kept (p : Port) (b : Bridge) : CaptureKept b (sendAnswer p b) := by
  unfold sendAnswer
  split
  · exact .of_same rfl rfl
  split <;> exact .of_same rfl rfl

theorem sendReturns_kept (p : Port) (b : Bridge) : CaptureKept b (sendReturns p b) := by
  unfold sendReturns
  split <;> exact .of_same rfl rfl

theorem sendDue_kept (p : Port) (b : Bridge) : CaptureKept b (sendDue p b) := by
  unfold sendDue
  dsimp only
  split
  · split
    · exact ((sendAnswer_kept p _).trans (sendReturns_kept p _)).after rfl rfl
    · exact ((sendReturns_kept p _).trans (sendAnswer_kept p _)).after rfl rfl
  · exact (sendAnswer_kept p b).trans (sendReturns_kept p _)

theorem queryTransmitted_kept (m : Mark) (b : Bridge) : CaptureKept b (queryTransmitted m b) := by
  unfold queryTransmitted
  dsimp only
  split <;> exact .of_same rfl rfl

theorem sendHead_kept (p : Port) (c : Cls) (x : Queued) (rest : List Queued) (b : Bridge) :
    CaptureKept b (sendHead p c x rest b) := by
  have hdue := sendDue_kept p b
  unfold sendHead
  dsimp only
  refine CaptureKept.trans ?_ (offerFreed_kept b p c _)
  split
  · exact hdue.rest rfl rfl
  · refine CaptureKept.trans ?_ (queryTransmitted_kept _ _)
    exact hdue.rest rfl rfl

theorem arbitrate_kept (p : Port) (b : Bridge) : CaptureKept b (arbitrate p b) := by
  unfold arbitrate
  split
  · split
    · exact .refl b
    split
    · exact .refl b
    · exact sendHead_kept p _ _ _ b
  · exact .refl b

theorem resend_kept (p : Port) (b : Bridge) : CaptureKept b (resend p b) := by
  unfold resend
  split
  · exact .refl b
  split
  · exact .refl b
  · exact (sendDue_kept p b).rest rfl rfl

/-! ### The time base and the timers -/

theorem tick_kept (b : Bridge) : CaptureKept b b.tick := by
  unfold Bridge.tick
  split <;> exact .of_same rfl rfl

theorem passDeadline_kept (d : Dir) (e : Fin 64) (b : Bridge) : CaptureKept b (passDeadline d e b) :=
  (raise_kept _ _).after rfl rfl

theorem passQuarantine_kept (d : Dir) (e : Fin 64) (b : Bridge) : CaptureKept b (passQuarantine d e b) := by
  unfold passQuarantine
  dsimp only
  split
  · exact (freeEntry_kept d e b).trans (raise_kept _ _)
  · exact .of_same rfl rfl
  · exact freeEntry_kept d e b

/-! ### The executed head (10 R164, R167 to R170) -/

/-- Whatever the head and the part, the effect of the row keeps the queue and line 0. -/
def EffectKept (effect : Command → Bridge → Verdict) : Prop := ∀ c b, CaptureKept b (verdictPart (effect c b))

theorem settle_kept (v : Verdict) (c : Command) : CaptureKept (verdictPart v) (v.settle c) := by
  cases v with
  | answer status data wakes b => exact deliverWith_kept push_kept _ wakes b
  | defer op b => exact .of_same rfl rfl

theorem judge_effectKept (req : Nat) {effect : Command → Bridge → Verdict} (he : EffectKept effect) :
    EffectKept (judge req effect) := by
  intro c b
  unfold judge
  split
  · exact .refl b
  split
  · exact .refl b
  split
  · exact .refl b
  · exact he c b

theorem runHead_kept (code : BitVec 6) (req : Nat) {effect : Command → Bridge → Verdict} (he : EffectKept effect)
    (b : Bridge) : CaptureKept b (runHead code req effect b) := by
  unfold runHead
  split
  · exact .refl b
  · next c _ _ =>
    split
    · exact (judge_effectKept req he c b).trans (settle_kept _ c)
    · exact .refl b

theorem runUnknown_kept (b : Bridge) : CaptureKept b (runUnknown b) := by
  unfold runUnknown
  split
  · exact .refl b
  · next c _ _ =>
    split
    · exact settle_kept (refuse .malformed b) c
    · exact .refl b

/-! ### The commands that write neither the queue nor a line -/

theorem identify_kept : EffectKept identifyEffect := fun _ b => .refl b

theorem accessSet_kept : EffectKept accessSetEffect := by
  intro c b
  unfold accessSetEffect
  split <;> exact .of_same rfl rfl

theorem portStatus_kept : EffectKept portStatusEffect := by
  intro c b
  unfold portStatusEffect
  split <;> exact .refl b

theorem writeSettings_kept {c : Command} {ports : List Port} {b b' : Bridge}
    (hb : writeSettings c ports b = some b') : CaptureKept b b' := by
  induction ports generalizing b with
  | nil => cases hb; exact .refl _
  | cons p ps ih =>
    unfold writeSettings at hb
    split at hb
    · cases hb
    · exact (ih hb).after rfl rfl

theorem linkSet_kept : EffectKept linkSetEffect := by
  intro c b
  unfold linkSetEffect
  split
  · exact .refl b
  · next b' hb =>
    obtain ⟨ps, _, hw⟩ := Option.bind_eq_some_iff.mp hb
    exact writeSettings_kept hw

theorem linkRetrain_kept : EffectKept linkRetrainEffect := by
  intro c b
  unfold linkRetrainEffect
  split
  · exact .refl b
  next p _ =>
  have hbegun := beginTraining_kept p .retrain .r3_2 b
  unfold retrainPort
  split
  · exact .refl b
  split
  · exact .refl b
  split
  · exact hbegun
  · exact hbegun
  · exact hbegun
  all_goals exact .refl b

theorem linkPark_kept : EffectKept linkParkEffect := by
  intro c b
  unfold linkParkEffect
  split
  · exact .refl b
  unfold parkCommand
  split
  · exact .refl b
  split
  · exact .of_same rfl rfl
  split <;> exact .refl b

theorem linkWake_kept : EffectKept linkWakeEffect := by
  intro c b
  unfold linkWakeEffect
  split
  · exact .refl b
  split <;> exact .of_same rfl rfl

theorem laneRead_kept : EffectKept laneReadEffect := by
  intro c b
  unfold laneReadEffect
  split <;> exact .refl b

theorem writePlan_kept (plan : PerClass (Amount Nat)) (ports : List Port) (b : Bridge) :
    CaptureKept b (writePlan plan ports b) :=
  CaptureKept.foldl (fun p b => .of_same (capture_onPort b p _) (lines_onPort b p _)) ports b

theorem bufferPlanSet_kept : EffectKept bufferPlanSetEffect := by
  intro c b
  unfold bufferPlanSetEffect
  split
  · exact .refl b
  split
  · exact .refl b
  · exact writePlan_kept _ _ b

theorem arbiterSet_kept : EffectKept arbiterSetEffect := by
  intro c b
  unfold arbiterSetEffect
  split
  · exact CaptureKept.foldl (f := writePriorities c) (fun _ _ => .of_same rfl rfl) _ b
  · exact .refl b

theorem windowLoad_kept : EffectKept windowLoadEffect := by
  intro c b
  unfold windowLoadEffect
  split <;> exact .of_same rfl rfl

theorem windowActivate_kept : EffectKept windowActivateEffect := by
  intro c b
  unfold windowActivateEffect
  split
  · exact .refl b
  dsimp only
  split
  · split <;> exact .of_same rfl rfl
  all_goals exact .refl b

theorem windowRetire_kept : EffectKept windowRetireEffect := by
  intro c b
  unfold windowRetireEffect
  split
  · exact .refl b
  dsimp only
  split
  · split
    · exact .of_same rfl rfl
    split <;> exact .of_same rfl rfl
  all_goals exact .refl b

theorem windowDiscard_kept : EffectKept windowDiscardEffect := by
  intro c b
  unfold windowDiscardEffect
  split
  · exact .refl b
  split <;> exact .of_same rfl rfl

theorem windowRead_kept : EffectKept windowReadEffect := by
  intro c b
  unfold windowReadEffect
  split <;> exact .refl b

theorem groupSet_kept : EffectKept groupSetEffect := by
  intro c b
  unfold groupSetEffect
  split <;> exact .of_same rfl rfl

theorem groupRead_kept : EffectKept groupReadEffect := by
  intro c b
  unfold groupReadEffect
  split <;> exact .refl b

theorem missPolicySet_kept : EffectKept missPolicySetEffect := by
  intro c b
  unfold missPolicySetEffect
  split <;> exact .of_same rfl rfl

theorem timerSet_kept : EffectKept timerSetEffect := by
  intro c b
  unfold timerSetEffect
  split <;> exact .of_same rfl rfl

theorem queryRead_kept : EffectKept queryReadEffect := by
  intro c b
  unfold queryReadEffect
  split <;> exact .refl b

theorem querySummary_kept : EffectKept querySummaryEffect := fun _ b => .refl b

theorem signalRead_kept : EffectKept signalReadEffect := by
  intro c b
  unfold signalReadEffect
  split <;> exact .refl b

/-! ### The commands that write a line or the queue -/

theorem signalConfig_kept : EffectKept signalConfigEffect := by
  intro c b
  unfold signalConfigEffect
  split
  · exact .refl b
  split
  · exact .refl b
  · show CaptureKept b (if _ then _ else _)
    split
    · exact (notifyIfDue_kept _ _).afterSetLine rfl rfl
    · exact (cancelNotification_kept _ _).afterSetLine rfl rfl

theorem signalMask_kept : EffectKept signalMaskEffect := by
  intro c b
  unfold signalMaskEffect
  split
  · exact (notifyIfDue_kept _ _).afterSetLine rfl rfl
  · exact (cancelNotification_kept _ _).afterSetLine rfl rfl
  · exact .refl b

theorem signalServiced_kept : EffectKept signalServicedEffect := by
  intro c b
  unfold signalServicedEffect
  split
  · exact .refl b
  split
  · exact (notifyIfDue_kept _ _).afterSetLine rfl rfl
  · exact .refl b

/-- The oldest record leaves; the last one takes line 0's level with it. -/
theorem captureRead_kept : EffectKept captureReadEffect := by
  intro c b h
  match hcapture : b.capture with
  | [] =>
    rw [captureRead_empty c hcapture]
    exact h
  | [r] =>
    rw [captureRead_last c hcapture]
    exact emptied_captureInv h rfl
  | r :: r' :: rest =>
    obtain ⟨hbound, hlevel, hunit⟩ := h
    rw [hcapture] at hbound hlevel
    rw [captureRead_more c hcapture]
    exact ⟨Nat.le_trans (Nat.le_succ _) hbound, hlevel, hunit⟩

theorem captureClear_kept : EffectKept captureClearEffect := by
  intro c b h
  by_cases hcapture : b.capture = []
  · rw [captureClear_empty c hcapture]
    exact CaptureKept.of_same rfl rfl h
  · rw [captureClear_held c hcapture]
    exact emptied_captureInv h rfl

/-! ### The step -/

section
variable {s : State}

theorem event_kept {f : Bridge → Bridge} (hf : ∀ b, CaptureKept b (f b)) : CaptureKept s.bridge (s.event f).bridge := by
  unfold State.event
  rw [bridge_onBridge]
  split
  · exact .refl _
  · exact hf _

/-- An event that acts only where its condition holds (log 1). -/
theorem event_ite_kept {cond : Bridge → Prop} [DecidablePred cond] {f : Bridge → Bridge}
    (hf : ∀ b, CaptureKept b (f b)) : CaptureKept s.bridge (s.event fun b => if cond b then f b else b).bridge := by
  refine event_kept fun b => ?_
  split
  · exact hf b
  · exact .refl b

theorem runHead_event {code : BitVec 6} {req : Nat} {effect : Command → Bridge → Verdict} (he : EffectKept effect) :
    CaptureKept s.bridge (s.event (runHead code req effect)).bridge :=
  event_kept (runHead_kept code req he)

end

/-- The row of a command acts on the part, or leaves it, and keeps the capture queue and line 0. -/
theorem exec_keepsCapture (i : Instr) (s : State) : ∃ t, exec i s = .next t ∧ CaptureKept s.bridge t.bridge := by
  cases i with
  | coldReset unitsel leafmgt => exact ⟨_, rfl, fun _ => coldReset_captureInv unitsel leafmgt s.bridge⟩
  | rstNRelease => exact ⟨_, rfl, releaseReset_kept s.bridge⟩
  | rootReset f => exact ⟨_, rfl, event_ite_kept rootResetOf_kept⟩
  | resetFlitAtLeaf f =>
    exact ⟨_, rfl, event_ite_kept fun _ => (beginTraining_kept .leaf _ _ _).after rfl rfl⟩
  | packetReceived p f => exact ⟨_, rfl, event_ite_kept (judgeFrame_kept p f)⟩
  | partnerTrainDetected p f =>
    refine ⟨_, rfl, event_kept fun b => ?_⟩
    split
    · exact takeTrain_kept p _ _ b
    · exact .refl b
  | configReceived p f =>
    refine ⟨_, rfl, event_kept fun b => ?_⟩
    split
    · exact meetConfig_kept p _ b
    · exact .refl b
  | ackReceived p f =>
    refine ⟨_, rfl, event_kept fun b => ?_⟩
    split
    · exact meetAck_kept p _ b
    · exact .refl b
  | nakReceived p f =>
    refine ⟨_, rfl, event_kept fun b => ?_⟩
    split
    · split
      · exact takeNak_kept p _ b
      · exact .refl b
    · exact .refl b
  | creditReceived p f =>
    refine ⟨_, rfl, event_kept fun b => ?_⟩
    split
    · split <;> exact .of_same rfl rfl
    · exact .refl b
  | parkReceived p f => exact ⟨_, rfl, event_ite_kept (takePark_kept p)⟩
  | wakeReceived p f => exact ⟨_, rfl, event_ite_kept (takeWake_kept p)⟩
  | idleReceived p f => exact ⟨_, rfl, .refl _⟩
  | sweepEnds p passing => exact ⟨_, rfl, event_ite_kept (endSweep_kept p passing)⟩
  | attemptBoundPasses p => exact ⟨_, rfl, event_ite_kept (failAttempt_kept p)⟩
  | wakeBoundPasses p => exact ⟨_, rfl, event_ite_kept (beginTraining_kept p _ _)⟩
  | parkDrainBoundPasses p => exact ⟨_, rfl, event_ite_kept (failDrain_kept p)⟩
  | parkDrainCompletes p => exact ⟨_, rfl, event_ite_kept (completePark_kept p)⟩
  | replayTimerExpires p => exact ⟨_, rfl, event_ite_kept (triggerReplay_kept p)⟩
  | ackBoundPasses p => exact ⟨_, rfl, event_ite_kept fun _ => .of_same rfl rfl⟩
  | creditRepeatDue p => exact ⟨_, rfl, event_ite_kept fun _ => .of_same rfl rfl⟩
  | configRepeat p => exact ⟨_, rfl, event_ite_kept (repeatConfig_kept p)⟩
  | wakeRepeat p => exact ⟨_, rfl, event_ite_kept fun _ => .of_same rfl rfl⟩
  | arbiterDecision p => exact ⟨_, rfl, event_kept (arbitrate_kept p)⟩
  | replayResend p => exact ⟨_, rfl, event_ite_kept (resend_kept p)⟩
  | ackSent p => exact ⟨_, rfl, event_ite_kept fun _ => .of_same rfl rfl⟩
  | nakSent p => exact ⟨_, rfl, event_ite_kept fun _ => .of_same rfl rfl⟩
  | creditFlitSent p => exact ⟨_, rfl, event_ite_kept fun _ => .of_same rfl rfl⟩
  | takePut p => exact ⟨_, rfl, event_kept (takeHead_kept p .stream _)⟩
  | takeGetSet p => exact ⟨_, rfl, event_kept (takeHead_kept p .query _)⟩
  | takeManage p => exact ⟨_, rfl, event_kept (takeHead_kept p .query _)⟩
  | managementBypass p =>
    refine ⟨_, rfl, event_kept fun b => ?_⟩
    split
    · exact .refl b
    · exact takeAt_kept p .query _ b
  | takeSignal => exact ⟨_, rfl, event_kept (takeHead_kept .leaf .stream _)⟩
  | takeReply p => exact ⟨_, rfl, event_kept (takeHead_kept p .reply _)⟩
  | takeMalformed p c =>
    refine ⟨_, rfl, event_kept fun b => ?_⟩
    split
    · exact .refl b
    split
    · exact takeAt_kept p c 0 b
    · exact .refl b
  | deadlinePasses d e => exact ⟨_, rfl, event_ite_kept (passDeadline_kept d e)⟩
  | quarantineEndPasses d e => exact ⟨_, rfl, event_ite_kept (passQuarantine_kept d e)⟩
  | returningDonePushed d e => exact ⟨_, rfl, event_ite_kept (pushOwed_kept d e)⟩
  | notificationAdmitted =>
    refine ⟨_, rfl, event_kept fun b => ?_⟩
    split
    · exact .refl b
    split
    · exact admitLine_kept _ b
    · exact .refl b
  | managementReplyAdmitted p => exact ⟨_, rfl, event_ite_kept (admitReply_kept p)⟩
  | unknownCommand => exact ⟨_, rfl, event_kept runUnknown_kept⟩
  | identify => exact ⟨_, rfl, runHead_event identify_kept⟩
  | accessSet => exact ⟨_, rfl, runHead_event accessSet_kept⟩
  | portStatus => exact ⟨_, rfl, runHead_event portStatus_kept⟩
  | linkSet => exact ⟨_, rfl, runHead_event linkSet_kept⟩
  | linkRetrain => exact ⟨_, rfl, runHead_event linkRetrain_kept⟩
  | linkPark => exact ⟨_, rfl, runHead_event linkPark_kept⟩
  | linkWake => exact ⟨_, rfl, runHead_event linkWake_kept⟩
  | laneRead => exact ⟨_, rfl, runHead_event laneRead_kept⟩
  | bufferPlanSet => exact ⟨_, rfl, runHead_event bufferPlanSet_kept⟩
  | arbiterSet => exact ⟨_, rfl, runHead_event arbiterSet_kept⟩
  | windowLoad => exact ⟨_, rfl, runHead_event windowLoad_kept⟩
  | windowActivate => exact ⟨_, rfl, runHead_event windowActivate_kept⟩
  | windowRetire => exact ⟨_, rfl, runHead_event windowRetire_kept⟩
  | windowDiscard => exact ⟨_, rfl, runHead_event windowDiscard_kept⟩
  | windowRead => exact ⟨_, rfl, runHead_event windowRead_kept⟩
  | groupSet => exact ⟨_, rfl, runHead_event groupSet_kept⟩
  | groupRead => exact ⟨_, rfl, runHead_event groupRead_kept⟩
  | missPolicySet => exact ⟨_, rfl, runHead_event missPolicySet_kept⟩
  | timerSet => exact ⟨_, rfl, runHead_event timerSet_kept⟩
  | queryRead => exact ⟨_, rfl, runHead_event queryRead_kept⟩
  | querySummary => exact ⟨_, rfl, runHead_event querySummary_kept⟩
  | signalConfig => exact ⟨_, rfl, runHead_event signalConfig_kept⟩
  | signalMask => exact ⟨_, rfl, runHead_event signalMask_kept⟩
  | signalServiced => exact ⟨_, rfl, runHead_event signalServiced_kept⟩
  | signalRead => exact ⟨_, rfl, runHead_event signalRead_kept⟩
  | captureRead => exact ⟨_, rfl, runHead_event captureRead_kept⟩
  | captureClear => exact ⟨_, rfl, runHead_event captureClear_kept⟩

/-- Settles O54: a step is one µs of the time base, or the front command's row. -/
theorem stepKeepsCapture : Obligations.StepKeepsCapture := by
  unfold Obligations.StepKeepsCapture
  intro s t h hstep
  unfold step at hstep
  split at hstep
  · cases hstep
    exact tick_kept s.bridge h
  · next c rest _ =>
    obtain ⟨u, hexec, hkept⟩ := exec_keepsCapture c { s with pending := rest }
    rw [hexec] at hstep
    cases hstep
    exact hkept h

end Sys2Proof.CaptureQueue
end

section
/-! The step (O1, O2): a step is one µs of the time base or the front command's row, and a row is an act on the part
alone, so it always answers a next state and leaves the queue of waiting commands. -/

namespace Sys2Proof.Stepping

open Sys2Proof.Machine Sys2Proof.Laws

/-! ### The step, by what stands in the queue -/

/-- On an empty queue the time base takes its µs (log 2). -/
theorem step_of_empty {s : State} (h : s.pending = []) : step s = .next (s.onBridge Bridge.tick) := by
  simp only [step, h, State.onBridge]

/-- Settles O1: a queue with a front command takes the second branch of the step. -/
theorem stepRunsFrontCommand : Obligations.StepRunsFrontCommand := by
  unfold Obligations.StepRunsFrontCommand
  intro c rest s hfront
  simp only [step, hfront]

/-! ### The time base -/

/-- With RST_N high a tick always counts, whatever the free value of log 3. -/
theorem tick_running {b : Bridge} (h : b.rstLow = false) : b.tick = { b with timeBase := b.timeBase + 1 } := by
  simp [Bridge.tick, h]

/-- With RST_N low the free value of log 3 alone decides whether a tick counts. -/
theorem tick_held {b : Bridge} (h : b.rstLow = true) :
    b.tick = if Config.countsWhileHeld then { b with timeBase := b.timeBase + 1 } else b := by
  cases hcounts : Config.countsWhileHeld <;> simp [Bridge.tick, h, hcounts]

/-! ### The rows -/

/-- Every row is one act on the part, the same whatever waits in the queue: no row stops (log 8). An IDLE flit is taken
with no act at all; the two rows of RST_N act at once, and each other row is an event, held off while RST_N is low. -/
theorem exec_actsOnBridge (i : Instr) : ∃ f : Bridge → Bridge, ∀ s, exec i s = .next (s.onBridge f) := by
  cases i with
  | idleReceived p f => exact ⟨id, fun _ => rfl⟩
  | coldReset unitsel leafmgt => exact ⟨coldResetOf unitsel leafmgt, fun _ => rfl⟩
  | rstNRelease => exact ⟨releaseReset, fun _ => rfl⟩
  | _ => exact ⟨fun b => if b.rstLow then b else _, fun _ => rfl⟩

/-- Every command answers a next state with the queue as it was. -/
theorem exec_completes (i : Instr) (s : State) : ∃ t, exec i s = .next t ∧ t.pending = s.pending := by
  obtain ⟨f, hf⟩ := exec_actsOnBridge i
  exact ⟨s.onBridge f, hf s, pending_onBridge s f⟩

/-- Settles O2: commands by `exec_completes`, the empty queue by the two cases of RST_N. -/
theorem everyStepCompletes : Obligations.EveryStepCompletes := by
  unfold Obligations.EveryStepCompletes
  refine ⟨exec_completes, fun s hempty => ⟨fun hhigh => ?_, fun hlow => ?_⟩⟩
  · rw [step_of_empty hempty, State.onBridge, tick_running hhigh]
  · rw [step_of_empty hempty, State.onBridge, tick_held hlow]
    split
    · exact .inr rfl
    · exact .inl rfl

end Sys2Proof.Stepping
end
